-- ==== Sys2Proof/Word.lean ====
section
/-! DEFINITION. The plain words of the BF316: bytes, link characters, and a value for each of the three components. -/

namespace Sys2Proof

/-- One byte of either port. -/
abbrev Byte := BitVec 8

/-- One nine-bit character of the link: its mark (the ninth data bit) and its byte (R156). -/
structure LinkChar where
  mark : Bool
  byte : Byte
  deriving DecidableEq, Repr

/-- One value for each seismometer component: Z (vertical), N (north), E (east). -/
structure ZNE (α : Type) where
  z : α
  n : α
  e : α
  deriving DecidableEq, Repr

/-- The same function on each component. -/
def ZNE.map {α β : Type} (f : α → β) (v : ZNE α) : ZNE β := ⟨f v.z, f v.n, f v.e⟩

/-- Four like things, one for each report queue. -/
structure Four (α : Type) where
  q0 : α
  q1 : α
  q2 : α
  q3 : α
  deriving DecidableEq, Repr

/-- The thing of queue `q`. -/
def Four.get {α : Type} (f : Four α) : Fin 4 → α
  | 0 => f.q0
  | 1 => f.q1
  | 2 => f.q2
  | 3 => f.q3

/-- The same four with queue `q`'s replaced. -/
def Four.set {α : Type} (f : Four α) (q : Fin 4) (a : α) : Four α :=
  match q with
  | 0 => { f with q0 := a }
  | 1 => { f with q1 := a }
  | 2 => { f with q2 := a }
  | 3 => { f with q3 := a }

/-- The same function on each of the four. -/
def Four.map {α β : Type} (g : α → β) (f : Four α) : Four β := ⟨g f.q0, g f.q1, g f.q2, g f.q3⟩

/-- The four in order of queue number. -/
def Four.toList {α : Type} (f : Four α) : List α := [f.q0, f.q1, f.q2, f.q3]

/-- Four copies of one thing. -/
def Four.all {α : Type} (a : α) : Four α := ⟨a, a, a, a⟩

/-- Eight like things, one for each signature slot or snippet slot. -/
structure Eight (α : Type) where
  s0 : α
  s1 : α
  s2 : α
  s3 : α
  s4 : α
  s5 : α
  s6 : α
  s7 : α
  deriving DecidableEq, Repr

/-- The thing of slot `i`. -/
def Eight.get {α : Type} (f : Eight α) : Fin 8 → α
  | 0 => f.s0
  | 1 => f.s1
  | 2 => f.s2
  | 3 => f.s3
  | 4 => f.s4
  | 5 => f.s5
  | 6 => f.s6
  | 7 => f.s7

/-- The same eight with slot `i`'s replaced. -/
def Eight.set {α : Type} (f : Eight α) (i : Fin 8) (a : α) : Eight α :=
  match i with
  | 0 => { f with s0 := a }
  | 1 => { f with s1 := a }
  | 2 => { f with s2 := a }
  | 3 => { f with s3 := a }
  | 4 => { f with s4 := a }
  | 5 => { f with s5 := a }
  | 6 => { f with s6 := a }
  | 7 => { f with s7 := a }

/-- The same function on each of the eight. -/
def Eight.map {α β : Type} (g : α → β) (f : Eight α) : Eight β :=
  ⟨g f.s0, g f.s1, g f.s2, g f.s3, g f.s4, g f.s5, g f.s6, g f.s7⟩

/-- The eight in order of slot number. -/
def Eight.toList {α : Type} (f : Eight α) : List α := [f.s0, f.s1, f.s2, f.s3, f.s4, f.s5, f.s6, f.s7]

/-- Eight copies of one thing. -/
def Eight.all {α : Type} (a : α) : Eight α := ⟨a, a, a, a, a, a, a, a⟩

/-- A saturating count that stops at `top`. -/
def satAdd (top a b : Nat) : Nat := min top (a + b)

end Sys2Proof
end

