-- ==== Sys2Proof/Syntax.lean ====
section
/-! DEFINITION. The commands of the BF316: one constructor per row of spec/opcode_table.json, in the table's order. -/

namespace Sys2Proof

/-- The two detectors (chapter 2). -/
inductive Det where
  | v
  | h
  deriving DecidableEq, Repr

/-- A command: one indivisible step of the part (95_what_each_step_holds). Operands: the straps of a pin reset; the
character that arrives; the detector or the queue concerned. A decoded message carries no operands: its bytes stand in the
inbound buffer (R162). -/
inductive Instr where
  | pinReset (rate1 rate0 : Bool)
  | sampleCharacter (byte : Byte)
  | conditionTriple
  | detectorTriple (d : Det)
  | confirmation (d : Det)
  | forcedRelease (d : Det)
  | warmupEnd (d : Det)
  | recoveryEnd (d : Det)
  | detectorDiscontinuity (d : Det)
  | detectorFlush (d : Det)
  | createPrimary (d : Det)
  | createSecondary (d : Det)
  | createSignature
  | confirm (d : Det)
  | cancel (d : Det)
  | markLong (d : Det)
  | onsetTriple
  | onsetDiscontinuity
  | onsetFlush
  | signatureTriple
  | signatureDiscontinuity
  | signatureFlush
  | associatePick
  | associationTriple
  | associationGap
  | associationTime
  | associationFlush
  | routePick
  | queueArrival
  | localTick
  | holdTimerExpiry (queue : Nat)
  | snippetTriple
  | snippetDiscontinuity
  | linkCharacter (mark : Bool) (byte : Byte) (stopAtMark : Bool)
  | lineBreak
  | peerHold
  | peerGo
  | unknownCode
  | rstr
  | flsh
  | stat
  | cntr
  | inpt
  | run
  | stop
  | dets
  | onst
  | phas
  | evts
  | rout
  | qset
  | grnt
  | qrst
  | snip
  | sigw
  | sige
  | sigd
  | redy
  | ackn
  | rfsd
  | strp
  | cntp
  | note
  | pick
  | evnt
  | segm
  | ownHold
  | ownGo
  | resetnLow
  | lineReturnsToMark
  | characterBoundary
  deriving DecidableEq, Repr

end Sys2Proof
end

