-- ==== Sys2Proof/Decode.lean ====
section
/-! DEFINITION. The BF316 is a block: no row of spec/opcode_table.json gives a bit, so no word spells a command. -/

namespace Sys2Proof

/-- The command that a word spells by the table's bits: none, because the table gives no row any bits. -/
def decodeTableWord (_nbits _w : Nat) : Option Instr := none

end Sys2Proof
end

