-- ==== Sys2Proof/Config.lean ====
section
/-! DEFINITION. What the spec fixes for every BF316 (sizes), and the free values: opaque constants that stand where the spec
leaves a value open. Nothing in Lean can evaluate a free value or prove what it is. -/

namespace Sys2Proof.Config

/-- Triples the History Ring holds (R22). -/
abbrev ringSize : Nat := 4096
/-- Entries of the Pending Pick Table (R51). -/
abbrev tableSize : Nat := 16
/-- Items of the Recent Pick List (R99). -/
abbrev recentSize : Nat := 16
/-- Events of the Open Event Table (R100). -/
abbrev eventSize : Nat := 8
/-- Records of the Report Pool (R123). -/
abbrev poolSize : Nat := 96
/-- Replies of the reply queue (R168). -/
abbrev replySize : Nat := 8
/-- Bytes of the inbound buffer (R160). -/
abbrev inboxSize : Nat := 256
/-- Fill at which the part's own HOLD is set (R161). -/
abbrev holdMark : Nat := 192
/-- Fill at which the part's own HOLD is cleared (R161). -/
abbrev goMark : Nat := 64
/-- Positions of a signature slot (R79). -/
abbrev positions : Nat := 256
/-- Entries of the Route Table (R120). -/
abbrev routes : Nat := 64
/-- Largest body of a link message (R158). -/
abbrev maxBody : Nat := 250
/-- A counter's ceiling (R19, R78, R98, R118, R140, R155, R176). -/
abbrev counterTop : Nat := 4294967295
/-- The largest x16 value (section "Numbers"). -/
abbrev x16Top : Nat := 4095
/-- The part's revision number, carried by REDY (R171). -/
abbrev revision : Nat := 1
/-- The longest hold time, and so the largest elapsed time of a running timer (R129). -/
abbrev holdTop : Nat := 10000

/-- FREE VALUE (log 6): the raw count read on component `k` (0 Z, 1 N, 2 E) at the ring position of triple number `idx`,
when `written` triples have been written and the named triple has been overwritten. -/
opaque lostRaw (written idx k : Nat) : BitVec 24
/-- FREE VALUE (log 6): the conditioned value read there. -/
opaque lostCond (written idx k : Nat) : BitVec 24
/-- FREE VALUE (log 6): the marks read there (0, 1, 2 the clip marks, 3 FILLED, 4 DISC). -/
opaque lostMark (written idx k : Nat) : Bool
/-- FREE VALUE (log 6): the time read there. -/
opaque lostTime (written idx : Nat) : BitVec 48
/-- FREE VALUE (log 7): what a field of `n` bytes carries when its value `v` does not fit in it. -/
opaque wideField (n v : Nat) : Nat

end Sys2Proof.Config
end

