-- ==== Sys2Proof/Machine/State.lean ====
section
/-! DEFINITION. Everything the spec gives the BF316, as plain data, block by block; the two ways a command can stop; and the
state right after pin reset. -/

namespace Sys2Proof.Machine

/-! ## Names shared by the blocks -/

/-- The cause of a discontinuity signal (R17). -/
inductive Cause where
  | gap
  | time
  | stop
  | flush
  deriving DecidableEq, Repr

/-- A triple named by its number since reset (its ring position is that number mod 4096) and its time (R22, log 5). -/
structure Ref where
  idx : Nat
  time : Nat
  deriving DecidableEq, Repr

/-- A signal raised and not yet taken by one reader: its cause, and how many triples were written when it was raised (R17). -/
structure Signal where
  cause : Cause
  after : Nat
  deriving DecidableEq, Repr

/-- What one reader of the History Ring has still to take: triples from number `taken` on, and signals (R17, R22). -/
structure Feed where
  taken : Nat
  signals : List Signal
  deriving DecidableEq, Repr

/-- P, S or undetermined (R68). -/
inductive Phase where
  | p
  | s
  | x
  deriving DecidableEq, Repr

/-! ## Sample Port, Conditioner, History Ring (chapter 1) -/

/-- The three sample rates (R18). -/
inductive SampleRate where
  | sps50
  | sps100
  | sps200
  deriving DecidableEq, Repr

/-- The input states (section 1.3). -/
inductive InputState where
  | stopped
  | hunting
  | running
  deriving DecidableEq, Repr

/-- The framer (R3): searching, with or without a possible first sync byte just read; or receiving, with the bytes read since
the sync pair. -/
inductive Framer where
  | searching (held : Bool)
  | receiving (bytes : List Byte)
  deriving DecidableEq, Repr

/-- A checked block (R5): its stream id, sequence, first-sample time and raw triples. -/
structure Block where
  stream : Nat
  sequence : Nat
  first : Nat
  samples : List (ZNE Int)
  deriving DecidableEq, Repr

/-- A triple in the delivering buffer (R8, R13). -/
structure PortTriple where
  raw : ZNE Int
  time : Nat
  filled : Bool
  disc : Bool
  deriving DecidableEq, Repr

/-- The INPT settings (R18). -/
structure InputSettings where
  stream : Nat
  rate : SampleRate
  fillLimit : Nat
  shift : Nat
  clipLevel : Nat
  deriving DecidableEq, Repr

/-- The Sample Port: `waiting` is a completed block in the receiving buffer, `delivering` the triples still to hand on (R8). -/
structure SamplePort where
  input : InputState
  framer : Framer
  waiting : Option Block
  delivering : List PortTriple
  lastSeq : Option Nat
  expected : Option Nat
  flushNote : Bool
  settings : InputSettings
  deriving DecidableEq, Repr

/-- A stored triple (section 1.6). -/
structure Triple where
  raw : ZNE Int
  cond : ZNE Int
  clip : ZNE Bool
  filled : Bool
  disc : Bool
  time : Nat
  deriving DecidableEq, Repr

/-- The History Ring: how many triples have been written since reset, and those held, newest first (R22). -/
structure Ring where
  written : Nat
  held : List Triple
  deriving DecidableEq, Repr

/-! ## Detectors (chapter 2) -/

/-- The detector states (section 2.2). -/
inductive DetState where
  | off
  | warmup
  | quiet
  | triggered
  | recovery
  deriving DecidableEq, Repr

/-- The episode record (R31). -/
structure Episode where
  number : Nat
  trigger : Ref
  lFrozen : Nat
  sref : Nat
  length : Nat
  since : Nat
  confirmed : Bool
  deriving DecidableEq, Repr

/-- The second half of a triple's treatment, still to be made by the command of that name (log 4). -/
inductive Due where
  | confirmation (triple : Ref)
  | forcedRelease
  | warmupEnd
  | recoveryEnd
  deriving DecidableEq, Repr

/-- The DETS settings of one detector (R40). -/
structure DetSettings where
  enabled : Bool
  ks : Nat
  kl : Nat
  lmin : Nat
  onLevel : Nat
  offLevel : Nat
  minDuration : Nat
  maxDuration : Nat
  k2 : Nat
  separation : Nat
  recovery : Nat
  deriving DecidableEq, Repr

/-- A detector's request of the Onset Unit (R38), naming its episode. -/
inductive DetRequest where
  | createPrimary (episode : Nat) (trigger : Ref) (reference : Nat) (confirmed : Bool)
  | createSecondary (episode : Nat) (trigger : Ref) (reference : Nat) (confirmed : Bool)
  | confirm (episode : Nat)
  | cancel (episode : Nat)
  | markLong (episode : Nat)
  deriving DecidableEq, Repr

/-- A detector (section 2.2), with its requests on their way to the Onset Unit in order (R38). -/
structure Detector where
  feed : Feed
  state : DetState
  short : Nat
  long : Nat
  ratio : Nat
  warmupCount : Nat
  recoveryCount : Nat
  episode : Option Episode
  nextEpisode : Nat
  due : Option Due
  requests : List DetRequest
  settings : DetSettings
  deriving DecidableEq, Repr

/-! ## Onset Unit (chapter 3) -/

/-- PRIMARY, SECONDARY or SIGNATURE (R51). -/
inductive PickKind where
  | primary
  | secondary
  | signature
  deriving DecidableEq, Repr

/-- The source of an entry or pick: a detector or a signature slot (R51). -/
inductive Source where
  | detector (d : Det)
  | slot (n : Fin 8)
  deriving DecidableEq, Repr

/-- One of the three components, as a pick's peak component (R60). -/
inductive Component where
  | z
  | n
  | e
  deriving DecidableEq, Repr

/-- The episode an entry belongs to: detector and episode number (R31). -/
structure EpisodeRef where
  det : Det
  number : Nat
  deriving DecidableEq, Repr

/-- An entry's peak (R60). -/
structure Peak where
  energy : Nat
  offset : Nat
  component : Component
  amplitude : Nat
  deriving DecidableEq, Repr

/-- The polarity work state (R62): the onset sign, the previous vertical value, and the first extremum's value and place. -/
structure PolarityWork where
  onsetSign : Int
  previous : Int
  extremum : Option (Int × Nat)
  deriving DecidableEq, Repr

/-- An entry of the Pending Pick Table (R51), with the phase label that a SIGNATURE entry's match carried (R52, R68). -/
structure Entry where
  kind : PickKind
  source : Source
  episode : Option EpisodeRef
  trigger : Ref
  onset : Ref
  reference : Nat
  threshold : Nat
  measureLen : Nat
  measured : Nat
  peak : Option Peak
  vSum : Nat
  hSum : Nat
  work : PolarityWork
  clipped : Bool
  filled : Bool
  confirmed : Bool
  edge : Bool
  long : Bool
  inverted : Bool
  confirmedBy : Option (Fin 8)
  score : Option Int
  coincident : Option Nat
  label : Option Phase
  deriving DecidableEq, Repr

/-- First motion (R69). -/
inductive Polarity where
  | unclear
  | up
  | down
  deriving DecidableEq, Repr

/-- A completed pick (R70). It carries GAP exactly when `gapCause` is present. -/
structure Pick where
  number : Nat
  kind : PickKind
  source : Source
  phase : Phase
  classification : Phase
  onset : Ref
  triggerTime : Nat
  grade : Nat
  polarity : Polarity
  snr16 : Nat
  hv16 : Nat
  peakAmplitude : Nat
  peakComponent : Component
  peakOffset : Nat
  measured : Nat
  edge : Bool
  clipped : Bool
  filled : Bool
  gapCause : Option Cause
  long : Bool
  inverted : Bool
  disagree : Bool
  confirmedBy : Option (Fin 8)
  coincident : Option Nat
  score : Option Int
  deriving DecidableEq, Repr

/-- The ONST settings (R73). -/
structure OnsetSettings where
  lookBack : Nat
  runLength : Nat
  factor : Nat
  measureLen : Nat
  tolerance : Nat
  deriving DecidableEq, Repr

/-- The PHAS settings (R74). -/
structure PhaseSettings where
  g1 : Nat
  g2 : Nat
  g3 : Nat
  pLimit : Nat
  sLimit : Nat
  deriving DecidableEq, Repr

/-- The Onset Unit's boundary (section 3.8): how many triples were written when it was set, and its cause. -/
structure Boundary where
  count : Nat
  cause : Cause
  deriving DecidableEq, Repr

/-- A detector's record of its last onset (R57): the episode and the onset. -/
structure LastOnset where
  episode : Nat
  onset : Ref
  deriving DecidableEq, Repr

/-- The Onset Unit (chapter 3). -/
structure OnsetUnit where
  feed : Feed
  table : List Entry
  lastV : Option LastOnset
  lastH : Option LastOnset
  boundary : Option Boundary
  nextPick : Nat
  onst : OnsetSettings
  phas : PhaseSettings
  deriving DecidableEq, Repr

/-! ## Signature Bank (chapter 4) -/

/-- A position's mask (section 4.1). -/
inductive Mask where
  | ignore
  | compare
  | stop
  deriving DecidableEq, Repr

/-- A position of a signature slot. -/
structure Position where
  value : Int
  mask : Mask
  deriving DecidableEq, Repr

/-- The signature slot states (section 4.1). -/
inductive SigState where
  | empty
  | loading
  | active
  deriving DecidableEq, Repr

/-- A signature slot (R79). -/
structure SigSlot where
  state : SigState
  positions : List Position
  writePtr : Nat
  gate : Nat
  m16 : Nat
  onsetOffset : Nat
  label : Phase
  invert : Bool
  length : Nat
  compareCount : Nat
  dead : Nat
  deriving DecidableEq, Repr

/-- A create SIGNATURE request (R93). -/
structure SigRequest where
  slot : Fin 8
  trigger : Ref
  onset : Ref
  score : Int
  label : Phase
  inverted : Bool
  deriving DecidableEq, Repr

/-- The Signature Bank, with its requests on their way to the Onset Unit in order (R94). -/
structure SignatureBank where
  feed : Feed
  slots : Eight SigSlot
  requests : List SigRequest
  deriving DecidableEq, Repr

/-! ## Association Unit (chapter 5) -/

/-- An item of the Recent Pick List (R99). -/
structure RecentPick where
  number : Nat
  kind : PickKind
  onset : Nat
  deriving DecidableEq, Repr

/-- A P or S member of an event: pick number and onset time (R100). -/
structure Member where
  number : Nat
  onset : Nat
  deriving DecidableEq, Repr

/-- An open event (R100). -/
structure Event where
  number : Nat
  first : Nat
  p : Option Member
  s : Option Member
  count : Nat
  last : Nat
  sFirst : Bool
  pAdopted : Bool
  deriving DecidableEq, Repr

/-- The part a pick plays in its event (R102). -/
inductive Role where
  | none
  | p
  | s
  | duplicate
  | member
  deriving DecidableEq, Repr

/-- Why an event closed (R116). -/
inductive CloseCause where
  | quiet
  | full
  | flush
  | gap
  | time
  deriving DecidableEq, Repr

/-- An event report (R116): an OPEN report has no cause. -/
structure EventReport where
  number : Nat
  cause : Option CloseCause
  first : Nat
  count : Nat
  sFirst : Bool
  pAdopted : Bool
  p : Option Member
  s : Option Member
  sp : Option Nat
  deriving DecidableEq, Repr

/-- What the time fence keeps out: TIME, or GAP and STOP (R114). -/
inductive Fence where
  | time
  | gapStop
  deriving DecidableEq, Repr

/-- The EVTS settings (R117); no queue is DISCARD. -/
structure EventSettings where
  spMin : Nat
  spMax : Nat
  pTolerance : Nat
  xWindow : Nat
  closeWindow : Nat
  openReport : Bool
  queue : Option (Fin 4)
  deriving DecidableEq, Repr

/-- The Association Unit, with the completed picks on their way to it in order (R70). The gap note holds a time or none. -/
structure AssociationUnit where
  feed : Feed
  picks : List Pick
  recent : List RecentPick
  events : List Event
  nextEvent : Nat
  gapNote : Option (Option Nat)
  fence : Option Fence
  lastTime : Option Nat
  settings : EventSettings
  deriving DecidableEq, Repr

/-! ## Routing and Report Queues (chapter 6) -/

/-- A Route Table entry (R120); no queue is DISCARD. -/
structure RouteEntry where
  dest : Option (Fin 4)
  attach : Bool
  deriving DecidableEq, Repr

/-- What routing says of a pick's snippet (R121). -/
inductive SnippetMark where
  | none
  | snippet
  | lost
  deriving DecidableEq, Repr

/-- A PICK record (R123). -/
structure PickReport where
  pick : Pick
  event : Nat
  role : Role
  mark : SnippetMark
  deriving DecidableEq, Repr

/-- A record of the Report Pool (R123). -/
inductive Record where
  | pick (r : PickReport)
  | evnt (r : EventReport)
  | item (slot : Fin 8) (sent : Nat)
  deriving DecidableEq, Repr

/-- What the Association Unit has handed on, in order (R102, log 11): an event report for a queue; a pick not yet routed; a
routed pick for a queue, with its snippet item when its mark is SNIPPET. -/
inductive Handed where
  | report (queue : Fin 4) (r : EventReport)
  | toRoute (p : Pick) (event : Nat) (role : Role)
  | routed (queue : Fin 4) (r : PickReport)
  deriving DecidableEq, Repr

/-- A hold timer (R129). -/
inductive HoldTimer where
  | stopped
  | running (elapsed : Nat)
  | expired
  deriving DecidableEq, Repr

/-- A report queue; `expiry` is set while the expiry of its timer has still to be taken by the queue (R129, log 15). -/
structure Queue where
  records : List Record
  credits : Nat
  batch : Nat
  hold : Nat
  timer : HoldTimer
  expiry : Bool
  ready : Bool
  starved : Bool
  lossNote : Bool
  deriving DecidableEq, Repr

/-! ## Snippet Store (chapter 7) -/

/-- The snippet slot states (section 7.1). -/
inductive SnipState where
  | free
  | filling
  | ready
  | sending
  deriving DecidableEq, Repr

/-- A captured triple: raw counts and time (R143). -/
structure SnipTriple where
  raw : ZNE Int
  time : Nat
  deriving DecidableEq, Repr

/-- A snippet slot (section 7.1). The captured count is the number of triples, oldest first; the next triple to copy is number
`onset.idx - preCount + captured`. -/
structure SnipSlot where
  state : SnipState
  pick : Nat
  pre : Nat
  post : Nat
  size : Nat
  onset : Ref
  preCount : Nat
  length : Nat
  complete : Bool
  cut : Bool
  triples : List SnipTriple
  deriving DecidableEq, Repr

/-- The SNIP settings (R153). -/
structure SnipSettings where
  pre : Nat
  post : Nat
  size : Nat
  deriving DecidableEq, Repr

/-- The Snippet Store; its boundary is a count of triples written (R145). -/
structure SnippetStore where
  feed : Feed
  slots : Eight SnipSlot
  boundary : Option Nat
  settings : SnipSettings
  deriving DecidableEq, Repr

/-! ## Link Port (chapter 8) -/

/-- What the link receiver does with its line (R157, log 12): it looks for a start bit; it has read a character of nine zero
bits whose stop bit stands at space, which is a framing error or the start of a line break; or it waits for the line at mark. -/
inductive LineWatch where
  | looking
  | undecided
  | awaitMark
  deriving DecidableEq, Repr

/-- How an inbound message stands (R158, R159). -/
inductive MsgStatus where
  | inProgress
  | complete
  | broken
  deriving DecidableEq, Repr

/-- An inbound message: code, length character once stored, body so far (R158). -/
structure InMsg where
  code : Byte
  length : Option Nat
  body : List Byte
  status : MsgStatus
  deriving DecidableEq, Repr

/-- A flow character (R161). -/
inductive Flow where
  | hold
  | go
  deriving DecidableEq, Repr

/-- RFSD reasons (R166). -/
inductive Reason where
  | unknown
  | short
  | state
  | slot
  deriving DecidableEq, Repr

/-- The 24 counters, in the order of CNTP (R187). -/
structure Counters where
  blocksGood : Nat
  blocksBadCount : Nat
  blocksBadCheck : Nat
  blocksWrongStream : Nat
  blocksDuplicate : Nat
  gapsFilled : Nat
  gapsLong : Nat
  timeBackward : Nat
  pickOverrun : Nat
  glitches : Nat
  picksMerged : Nat
  pendingFlushed : Nat
  signatureMatches : Nat
  eventsForced : Nat
  routeDiscards : Nat
  snippetLost : Nat
  poolLost : Four Nat
  snippetCut : Nat
  linkFramingErrors : Nat
  linkBrokenMessages : Nat
  linkOverrun : Nat
  deriving DecidableEq, Repr

/-- The items of an STRP (R181). -/
structure StatusReport where
  input : InputState
  lastTime : Nat
  stateV : DetState
  ratioV : Nat
  stateH : DetState
  ratioH : Nat
  pending : Nat
  events : Nat
  records : Four Nat
  credits : Four Nat
  snips : Eight SnipState
  sigs : Eight SigState
  deriving DecidableEq, Repr

/-- A reply (R166); ACKN's `cut` is its flag PARTIAL. -/
inductive Reply where
  | ackn (code : Byte) (clamped cut : Bool) (count : Nat)
  | rfsd (code : Byte) (reason : Reason)
  | strp (r : StatusReport)
  | cntp (cleared : Bool) (c : Counters)
  deriving DecidableEq, Repr

/-- The ten notices with a place of their own (R169). -/
inductive Notice where
  | inputFound
  | inputLost
  | starved (q : Fin 4)
  | poolLoss (q : Fin 4)
  deriving DecidableEq, Repr

/-- A pending notice with its count (R169). -/
structure PendingNotice where
  notice : Notice
  count : Nat
  deriving DecidableEq, Repr

/-- The cause REDY carries (R171). -/
inductive ResetCause where
  | pin
  | command
  deriving DecidableEq, Repr

/-- The Link Port: receiver, inbound buffer, flow control, replies, notices (oldest first), and the outbound line: the
character being sent and the rest of the message in progress. -/
structure LinkPort where
  watch : LineWatch
  inbox : List InMsg
  ownHold : Bool
  flow : Option Flow
  peerHold : Bool
  replies : List Reply
  redy : Option ResetCause
  notices : List PendingNotice
  current : Option LinkChar
  rest : List LinkChar
  deriving DecidableEq, Repr

/-! ## The whole part -/

/-- The state of the BF316. `pending` is the model's queue of commands; `flushing` says that the message being decoded is an
FLSH some block has not yet taken (R180). -/
structure State where
  pending : List Instr
  resetLow : Bool
  rate1 : Bool
  rate0 : Bool
  localTime : Nat
  port : SamplePort
  offsets : Option (ZNE Int)
  ring : Ring
  detV : Detector
  detH : Detector
  onset : OnsetUnit
  bank : SignatureBank
  assoc : AssociationUnit
  outbox : List Handed
  routes : List RouteEntry
  queues : Four Queue
  snips : SnippetStore
  link : LinkPort
  flushing : Bool
  counters : Counters
  deriving DecidableEq, Repr

/-- Why a command can stop the part. -/
inductive Fault where
  /-- Raised by QUEUE_ARRIVAL when a pick routed with a snippet item finds no slot FREE. R142 says a FREE slot is always there,
  so no run reaches it (log 26). Safe: the model stops where the spec says nothing. -/
  | snippetSlotMissing
  deriving DecidableEq, Repr

/-- Why a command can have no meaning. -/
inductive Refusal where
  /-- Raised for a row that has no meaning yet; no arm raises it. Safe. -/
  | notModelled (mnemonic : String)
  deriving DecidableEq, Repr

/-- What a command answers. -/
abbrev Answer := Host.Outcome State Fault Refusal

/-! ## Reset values -/

/-- A feed with nothing taken and nothing waiting (R24, R179). -/
def Feed.reset : Feed := ⟨0, []⟩

/-- R18's defaults. -/
def InputSettings.reset : InputSettings := ⟨0, .sps100, 4, 10, 8388607⟩

/-- R19. -/
def SamplePort.reset : SamplePort := ⟨.stopped, .searching false, none, [], none, none, false, .reset⟩

/-- R24: empty, next write at position 0. -/
def Ring.reset : Ring := ⟨0, []⟩

/-- R40's defaults. -/
def DetSettings.reset : DetSettings := ⟨true, 3, 9, 100, 56, 24, 4, 6000, 40, 50, 100⟩

/-- R49. -/
def Detector.reset : Detector := ⟨.reset, .warmup, 0, 0, 0, 0, 0, none, 1, none, [], .reset⟩

/-- R73's defaults. -/
def OnsetSettings.reset : OnsetSettings := ⟨200, 5, 32, 100, 10⟩

/-- R74's defaults. -/
def PhaseSettings.reset : PhaseSettings := ⟨64, 256, 1024, 12, 32⟩

/-- R78, R57. -/
def OnsetUnit.reset : OnsetUnit := ⟨.reset, [], none, none, none, 1, .reset, .reset⟩

/-- R79; the stored length and compare count are those of its contents (log 18). -/
def SigSlot.reset : SigSlot :=
  ⟨.empty, List.replicate Config.positions ⟨0, .stop⟩, 0, 0, 12, 0, .p, false, 0, 0, 0⟩

/-- R97. -/
def SignatureBank.reset : SignatureBank := ⟨.reset, .all .reset, []⟩

/-- R117's defaults. -/
def EventSettings.reset : EventSettings := ⟨50, 3000, 10, 2000, 4000, false, some 0⟩

/-- R118. -/
def AssociationUnit.reset : AssociationUnit := ⟨.reset, [], [], [], 1, none, none, none, .reset⟩

/-- R138. -/
def Queue.reset : Queue := ⟨[], 0, 1, 0, .stopped, false, false, false, false⟩

/-- A FREE slot (R141). -/
def SnipSlot.reset : SnipSlot := ⟨.free, 0, 0, 0, 0, ⟨0, 0⟩, 0, 0, false, false, []⟩

/-- R153's defaults. -/
def SnipSettings.reset : SnipSettings := ⟨50, 150, 16⟩

/-- R154. -/
def SnippetStore.reset : SnippetStore := ⟨.reset, .all .reset, none, .reset⟩

/-- Every counter 0 (R187). -/
def Counters.zero : Counters :=
  ⟨0, 0, 0, 0, 0, 0, 0, 0, 0, 0, 0, 0, 0, 0, 0, 0, .all 0, 0, 0, 0, 0⟩

/-- R174, column "After pin reset": REDY with cause PIN is the only pending notice. -/
def LinkPort.reset : LinkPort := ⟨.awaitMark, [], false, none, false, [], some .pin, [], none, []⟩

/-- The part right after pin reset (R191), with both straps low (log 1) and no command waiting. -/
def State.reset : State where
  pending := []
  resetLow := false
  rate1 := false
  rate0 := false
  localTime := 0
  port := .reset
  offsets := none
  ring := .reset
  detV := .reset
  detH := .reset
  onset := .reset
  bank := .reset
  assoc := .reset
  outbox := []
  routes := List.replicate Config.routes ⟨some 0, false⟩
  queues := .all .reset
  snips := .reset
  link := .reset
  flushing := false
  counters := .zero

end Sys2Proof.Machine
end

