-- ==== Sys2Proof/Machine/Ops.lean ====
section
/-! DEFINITION. The named operations over State that several commands share: numbers and bytes, the History Ring, the readers'
feeds, the notice store, the reply queue, the two directions of the link line, and the choice of the best candidate. -/

namespace Sys2Proof.Machine

/-! ## Numbers -/

/-- A 32-bit counter gains `k`, saturating (R19). -/
def ctr (n k : Nat) : Nat := satAdd Config.counterTop n k

/-- The number after `n` in 1..65535, wrapping to 1 (R31, R66, R101). -/
def nextNumber (n : Nat) : Nat := if n < 65535 then n + 1 else 1

/-- The sign of a count: 1, -1 or 0. -/
def signOf (x : Int) : Int := if 0 < x then 1 else if x < 0 then -1 else 0

/-- A value saturated into the 24-bit signed range (R20). -/
def sat24 (x : Int) : Int := max (-8388608) (min 8388607 x)

/-- `v` taken to the nearest limit of `lo..hi` (00_scope, "Settings out of range"). -/
def clamp (lo hi v : Nat) : Nat := max lo (min hi v)

/-- The sample period in microseconds (R18). -/
def SampleRate.period : SampleRate → Nat
  | .sps50 => 20000
  | .sps100 => 10000
  | .sps200 => 5000

/-- The period of the rate in force. -/
def State.period (s : State) : Nat := s.port.settings.rate.period

/-- The distance of two times. -/
def timeDist (a b : Nat) : Nat := (a - b) + (b - a)

/-! ## Bytes, most significant first (00_scope, "Byte order") -/

/-- The unsigned number a run of bytes spells. -/
def beVal (bs : List Byte) : Nat := bs.foldl (fun v b => v * 256 + b.toNat) 0

/-- The two's complement number three bytes spell (section 9.1). -/
def signed24 (v : Nat) : Int := if v < 8388608 then (v : Int) else (v : Int) - 16777216

/-- The lowest `n` bytes of `v`, most significant first. -/
def beBytes : Nat → Nat → List Byte
  | 0, _ => []
  | n + 1, v => BitVec.ofNat 8 (v / 256 ^ n) :: beBytes n v

/-- An unsigned field of `n` bytes; a value that does not fit leaves a free value there (log 7). -/
def field (n v : Nat) : List Byte := beBytes n (if v < 256 ^ n then v else Config.wideField n v)

/-- A two's complement field of `n` bytes; a value that does not fit leaves a free value there (log 7). -/
def signedField (n : Nat) (x : Int) : List Byte :=
  field n (if x < 0 then (x + (256 ^ n : Nat)).toNat else x.toNat)

/-! ## The History Ring (R22, R23) -/

/-- The energy a detector takes from a triple (R25). -/
def Triple.energy (d : Det) (t : Triple) : Nat :=
  match d with
  | .v => t.cond.z.natAbs ^ 2
  | .h => (t.cond.n.natAbs ^ 2 + t.cond.e.natAbs ^ 2) / 2

/-- The number of the oldest triple held. -/
def Ring.oldest (r : Ring) : Nat := r.written - r.held.length

/-- What is read at a ring position whose named triple is gone: a free value (log 6). -/
def Ring.lost (r : Ring) (idx : Nat) : Triple where
  raw := ⟨(Config.lostRaw r.written idx 0).toInt, (Config.lostRaw r.written idx 1).toInt, (Config.lostRaw r.written idx 2).toInt⟩
  cond := ⟨(Config.lostCond r.written idx 0).toInt, (Config.lostCond r.written idx 1).toInt, (Config.lostCond r.written idx 2).toInt⟩
  clip := ⟨Config.lostMark r.written idx 0, Config.lostMark r.written idx 1, Config.lostMark r.written idx 2⟩
  filled := Config.lostMark r.written idx 3
  disc := Config.lostMark r.written idx 4
  time := (Config.lostTime r.written idx).toNat

/-- Triple number `idx`. -/
def Ring.read (r : Ring) (idx : Nat) : Triple :=
  if idx < r.written then (r.held[r.written - 1 - idx]?).getD (r.lost idx) else r.lost idx

/-- Writes a triple after the newest; beyond 4096 the oldest is gone (R22). -/
def Ring.write (r : Ring) (t : Triple) : Ring := ⟨r.written + 1, (t :: r.held).take Config.ringSize⟩

/-- A walk toward older triples that yields up to `n`, oldest first: it uses a DISC triple or the oldest held and stops there
(R23). A walk from a triple that is no longer held stops at once (log 33). -/
def Ring.walkBack (r : Ring) : Nat → Nat → List Triple → List Triple
  | 0, _, acc => acc
  | n + 1, idx, acc =>
    let t := r.read idx
    if t.disc || decide (idx ≤ r.oldest) then t :: acc else r.walkBack n (idx - 1) (t :: acc)

/-! ## Feeds (R17, R22) -/

/-- Triple number `idx` was written after a signal that the reader has still to take, so the reader may not treat it yet (R17). -/
def Feed.holdsBack (f : Feed) (idx : Nat) : Bool :=
  match f.signals with
  | [] => false
  | g :: _ => decide (g.after ≤ idx)

/-- The next triple is there and no signal stands before it (R17, R22). -/
def Feed.tripleReady (f : Feed) (r : Ring) : Bool := decide (f.taken < r.written) && !f.holdsBack f.taken

/-- The reader takes its next triple. -/
def Feed.takeTriple (f : Feed) : Feed := { f with taken := f.taken + 1 }

/-- The cause of the signal the reader may take now: FLUSH at any time, any other once every triple written before it has been
taken (log 8). -/
def Feed.signalReady (f : Feed) : Option Cause :=
  match f.signals with
  | [] => none
  | g :: _ => if g.cause == .flush || decide (g.after ≤ f.taken) then some g.cause else none

/-- The reader takes its oldest signal. -/
def Feed.takeSignal (f : Feed) : Feed := { f with signals := f.signals.tail }

/-- A signal is raised after `w` triples. -/
def Feed.raise (f : Feed) (c : Cause) (w : Nat) : Feed := { f with signals := f.signals ++ [⟨c, w⟩] }

/-- A FLUSH signal stands in this feed. -/
def Feed.holdsFlush (f : Feed) : Bool := f.signals.any (fun g => g.cause == .flush)

/-- The detector named. -/
def State.det (s : State) : Det → Detector
  | .v => s.detV
  | .h => s.detH

/-- The state with the detector named replaced. -/
def State.setDet (s : State) (d : Det) (x : Detector) : State :=
  match d with
  | .v => { s with detV := x }
  | .h => { s with detH := x }

/-- The six readers' feeds. -/
def State.feeds (s : State) : List Feed :=
  [s.detV.feed, s.detH.feed, s.onset.feed, s.bank.feed, s.assoc.feed, s.snips.feed]

/-- The discontinuity signal goes to every block after the History Ring (R17). -/
def State.raiseSignal (s : State) (c : Cause) : State :=
  let w := s.ring.written
  { s with
    detV := { s.detV with feed := s.detV.feed.raise c w }
    detH := { s.detH with feed := s.detH.feed.raise c w }
    onset := { s.onset with feed := s.onset.feed.raise c w }
    bank := { s.bank with feed := s.bank.feed.raise c w }
    assoc := { s.assoc with feed := s.assoc.feed.raise c w }
    snips := { s.snips with feed := s.snips.feed.raise c w } }

/-! ## Notices and replies (R168, R169) -/

/-- A notice raised: a new newest one with count 1, or one more on a pending one, saturating at 255. -/
def raiseNotice (ns : List PendingNotice) (n : Notice) : List PendingNotice :=
  if ns.any (fun p => p.notice == n) then
    ns.map (fun p => if p.notice == n then { p with count := satAdd 255 p.count 1 } else p)
  else ns ++ [⟨n, 1⟩]

/-- A block raises a notice. -/
def State.notify (s : State) (n : Notice) : State :=
  { s with link := { s.link with notices := raiseNotice s.link.notices n } }

/-- A reply goes to the tail of the reply queue (R162). -/
def State.reply (s : State) (r : Reply) : State := { s with link := { s.link with replies := s.link.replies ++ [r] } }

/-- Once every block has taken the FLUSH signal of the FLSH being decoded, its ACKN is placed (R180, log 10). -/
def State.finishFlush (s : State) : State :=
  if s.flushing && !s.feeds.any Feed.holdsFlush then
    { s with flushing := false, link := { s.link with replies := s.link.replies ++ [.ackn 0x02 false false 0] } }
  else s

/-! ## The outbound line (R167, R173, log 14) -/

/-- The next character of the message in progress begins, when no character is being sent, no flow character waits, and the
peer HOLD state is clear. -/
def LinkPort.resume (l : LinkPort) : LinkPort :=
  if l.current.isNone && l.flow.isNone && !l.peerHold then
    match l.rest with
    | [] => l
    | c :: cs => { l with current := some c, rest := cs }
  else l

/-- The arbiter may choose: the line is at a message boundary, no flow character waits, and the peer HOLD state is clear
(R172). -/
def LinkPort.free (l : LinkPort) : Bool := l.current.isNone && l.rest.isEmpty && l.flow.isNone && !l.peerHold

/-- A chosen message starts: its opener is being sent, the rest follows (R172, R173). -/
def LinkPort.start (l : LinkPort) (code : Byte) (body : List Byte) : LinkPort :=
  { l with
    current := some ⟨true, code⟩
    rest := ⟨false, BitVec.ofNat 8 body.length⟩ :: body.map (fun b => ⟨false, b⟩) }

/-! ## The inbound buffer (R160, R161) -/

/-- The bytes a message takes in the buffer: its opener, its length once stored, its body. -/
def InMsg.bytes (m : InMsg) : Nat := 1 + (if m.length.isSome then 1 else 0) + m.body.length

/-- The fill. -/
def LinkPort.fill (l : LinkPort) : Nat := (l.inbox.map InMsg.bytes).sum

/-- After a stored character: at 192 the own HOLD state is set, and a GO not yet sent is withdrawn or a HOLD placed (R161). -/
def LinkPort.afterStore (l : LinkPort) : LinkPort :=
  if decide (Config.holdMark ≤ l.fill) && !l.ownHold then
    if l.flow = some .go then { l with ownHold := true, flow := none }.resume
    else { l with ownHold := true, flow := some .hold }
  else l

/-- After a decode: at 64 the own HOLD state is cleared, and a HOLD not yet sent is withdrawn or a GO placed (R161). -/
def LinkPort.afterDecode (l : LinkPort) : LinkPort :=
  if decide (l.fill ≤ Config.goMark) && l.ownHold then
    if l.flow = some .hold then { l with ownHold := false, flow := none }.resume
    else { l with ownHold := false, flow := some .go }
  else l

/-! ## Choosing a candidate -/

/-- The place of the element with the greatest score, a tie going to the earlier; elements without a score are no candidates. -/
def bestFrom {α : Type} (score : α → Option Int) : List α → Nat → Option (Nat × Int) → Option (Nat × Int)
  | [], _, acc => acc
  | a :: as, i, acc =>
    bestFrom score as (i + 1)
      (match score a, acc with
       | none, _ => acc
       | some v, none => some (i, v)
       | some v, some (j, w) => if w < v then some (i, v) else some (j, w))

/-- The place of the best candidate of a list. -/
def best {α : Type} (score : α → Option Int) (l : List α) : Option Nat := (bestFrom score l 0 none).map Prod.fst

/-! ## Reset low (R191) -/

/-- A step of the part: while RESETN is low or the supply is out of range, nothing is taken. -/
def State.live (s : State) (f : State → State) : State := if s.resetLow then s else f s

end Sys2Proof.Machine
end

