-- ==== Sys2Proof/Machine/Flags.lean ====
section
/-! DEFINITION. Flags: the flag and presence bytes of the outbound messages, and the codes their enumerated fields carry
(section 9.4). -/

namespace Sys2Proof.Machine

/-- `v` when the flag is set, 0 otherwise. -/
def bit (b : Bool) (v : Nat) : Nat := if b then v else 0

/-- ACKN's flags byte (R184). -/
def ackFlags (clamped cut : Bool) : Nat := bit clamped 1 + bit cut 2

/-- RFSD's reason code (R184). -/
def Reason.code : Reason → Nat
  | .unknown => 1
  | .short => 2
  | .state => 3
  | .slot => 4

/-- NOTE's kind code (R185). -/
def Notice.code : Notice → Nat
  | .inputFound => 1
  | .inputLost => 2
  | .starved _ => 3
  | .poolLoss _ => 4

/-- NOTE's queue number, 0 for the notices that have none (R185). -/
def Notice.queue : Notice → Nat
  | .inputFound => 0
  | .inputLost => 0
  | .starved q => q.val
  | .poolLoss q => q.val

/-- REDY's cause code (R185). -/
def ResetCause.code : ResetCause → Nat
  | .pin => 1
  | .command => 2

/-- STRP's input state code (R186). -/
def InputState.code : InputState → Nat
  | .stopped => 0
  | .hunting => 1
  | .running => 2

/-- STRP's detector state code (R186). -/
def DetState.code : DetState → Nat
  | .off => 0
  | .warmup => 1
  | .quiet => 2
  | .triggered => 3
  | .recovery => 4

/-- STRP's snippet slot code (R186). -/
def SnipState.code : SnipState → Nat
  | .free => 0
  | .filling => 1
  | .ready => 2
  | .sending => 3

/-- STRP's signature slot code (R186). -/
def SigState.code : SigState → Nat
  | .empty => 0
  | .loading => 1
  | .active => 2

/-- PICK's kind code (R188). -/
def PickKind.code : PickKind → Nat
  | .primary => 0
  | .secondary => 1
  | .signature => 2

/-- PICK's source code (R188). -/
def Source.code : Source → Nat
  | .detector .v => 0
  | .detector .h => 1
  | .slot n => 8 + n.val

/-- PICK's phase code, and the phase code of the class index for a pick that is not SECONDARY (R119, R188). -/
def Phase.code : Phase → Nat
  | .p => 0
  | .s => 1
  | .x => 2

/-- PICK's polarity code (R188). -/
def Polarity.code : Polarity → Nat
  | .unclear => 0
  | .up => 1
  | .down => 2

/-- PICK's peak component code (R188). -/
def Component.code : Component → Nat
  | .z => 0
  | .n => 1
  | .e => 2

/-- PICK's role code (R188). -/
def Role.code : Role → Nat
  | .none => 0
  | .p => 1
  | .s => 2
  | .duplicate => 3
  | .member => 4

/-- EVNT's cause code; an OPEN report has none (R189). -/
def closeCode : Option CloseCause → Nat
  | none => 0
  | some .quiet => 1
  | some .full => 2
  | some .flush => 3
  | some .gap => 4
  | some .time => 5

/-- PICK's flags word (R188). -/
def PickReport.flags (r : PickReport) : Nat :=
  bit r.pick.edge 0x0001 + bit r.pick.clipped 0x0002 + bit r.pick.filled 0x0004 + bit r.pick.gapCause.isSome 0x0008 +
    bit r.pick.long 0x0010 + bit r.pick.inverted 0x0020 + bit r.pick.disagree 0x0040 +
    bit (r.mark == .snippet) 0x0080 + bit (r.mark == .lost) 0x0100

/-- PICK's presence byte (R188). -/
def Pick.presence (p : Pick) : Nat :=
  bit p.confirmedBy.isSome 1 + bit p.coincident.isSome 2 + bit p.score.isSome 4

/-- EVNT's flags byte (R189). -/
def EventReport.flags (r : EventReport) : Nat := bit r.sFirst 1 + bit r.pAdopted 2

/-- EVNT's presence byte (R189). -/
def EventReport.presence (r : EventReport) : Nat := bit r.p.isSome 1 + bit r.s.isSome 2 + bit r.sp.isSome 4

/-- SEGM's flags byte (R190). -/
def segFlags (last cut : Bool) : Nat := bit last 1 + bit cut 2

end Sys2Proof.Machine
end

