-- ==== Sys2Proof/Machine/Operands.lean ====
section
/-! DEFINITION. The operand forms of inbound messages: fields of a body in order, the pairs of SIGW, the entry bytes of ROUT, and
how a field's value is taken into its range (R164, R165, R178). -/

namespace Sys2Proof.Machine

/-- The fields that arrived complete, in body order: reading stops at the first that did not (R164). -/
def takeFields : List Nat → List Byte → List Nat
  | [], _ => []
  | n :: ns, bs => if n ≤ bs.length then beVal (bs.take n) :: takeFields ns (bs.drop n) else []

/-- The value a setting has after a message: the received field taken to its nearest limit, or the value before. -/
def setting (fs : List Nat) (i lo hi old : Nat) : Nat :=
  match fs[i]? with
  | none => old
  | some v => clamp lo hi v

/-- The received field lay outside its range. -/
def outside (fs : List Nat) (i lo hi : Nat) : Bool :=
  match fs[i]? with
  | none => false
  | some v => decide (v < lo) || decide (hi < v)

/-- A flag setting: 0 clear, any other value set. -/
def flagSetting (fs : List Nat) (i : Nat) (old : Bool) : Bool :=
  match fs[i]? with
  | none => old
  | some v => decide (v ≠ 0)

/-- A queue number, when it is one of 0 to 3. -/
def queueOf (n : Nat) : Option (Fin 4) := if h : n < 4 then some ⟨n, h⟩ else none

/-- A slot number, when it is one of 0 to 7. -/
def slotOf (n : Nat) : Option (Fin 8) := if h : n < 8 then some ⟨n, h⟩ else none

/-- The nearest of the three rates (R18). -/
def rateOf (v : Nat) : SampleRate := if v < 75 then .sps50 else if v < 150 then .sps100 else .sps200

/-- The rate field of INPT named none of the three (R18). -/
def rateOutside (v : Nat) : Bool := v != 50 && v != 100 && v != 200

/-- The whole pairs of a SIGW body after slot and start index: value (signed) and mask code; a last odd byte is no field
(R84). -/
def sigPairs : List Byte → List (Int × Nat)
  | v :: m :: bs => (v.toInt, m.toNat) :: sigPairs bs
  | _ => []

/-- The mask a code names; any other code is END (R83). -/
def maskOf (code : Nat) : Mask := if code = 0 then .ignore else if code = 1 then .compare else .stop

/-- A route entry byte: high bit attach, low seven bits the destination (ROUT's layout). -/
def routeOf (b : Byte) : RouteEntry := ⟨queueOf (b.toNat % 128), decide (128 ≤ b.toNat)⟩

/-- The phase label a code names: 0 is P, any other is S (R85). -/
def labelOf (code : Nat) : Phase := if code = 0 then .p else .s

/-- A message ended before its declared length (R159). -/
def InMsg.isBroken (m : InMsg) : Bool := m.status == .broken

/-- The codes of the inbound messages (R177). -/
def inboundCodes : List Byte :=
  [0x01, 0x02, 0x03, 0x04, 0x08, 0x09, 0x0A, 0x0C, 0x0D, 0x0E, 0x0F, 0x10, 0x11, 0x12, 0x13, 0x14, 0x18, 0x19, 0x1A]

/-- The oldest message of the inbound buffer, when it is complete or broken and the decoder is not busy with an FLSH (R162). -/
def State.oldestMessage (s : State) : Option InMsg :=
  match s.link.inbox with
  | [] => none
  | m :: _ => if m.status == .inProgress || s.flushing then none else some m

/-- A decode removes the oldest message with all its bytes (R160, R161). -/
def State.popMessage (s : State) : State :=
  { s with link := { s.link with inbox := s.link.inbox.tail }.afterDecode }

/-- The reply queue has a free place (R162). -/
def State.replyRoom (s : State) : Bool := decide (s.link.replies.length < Config.replySize)

/-- The decoder takes the oldest message if it is ready, has the code asked for, a reply has room, and the owning blocks stand
between two of their treatments of triples (R162). -/
def State.decode (s : State) (wanted : InMsg → Bool) (owners : InMsg → State → Bool)
    (take : InMsg → State → State) : State :=
  match s.oldestMessage with
  | none => s
  | some m => if wanted m && s.replyRoom && owners m s then take m s.popMessage else s

/-- An action message acts only on its whole body; broken or short it is refused SHORT (R165). -/
def action (need : Nat) (act : InMsg → State → State) (m : InMsg) (s : State) : State :=
  if m.isBroken || decide (m.body.length < need) then s.reply (.rfsd m.code .short) else act m s

/-- Byte `i` of a body, as a number. -/
def InMsg.at (m : InMsg) (i : Nat) : Nat := ((m.body[i]?).getD 0).toNat

/-- No owner has to be waited for. -/
def always (_ : InMsg) (_ : State) : Bool := true

/-- The ACKN of a settings message: CLAMPED as given, PARTIAL when broken, and the count of fields (R164). -/
def ackSettings (m : InMsg) (clamped : Bool) (count : Nat) (s : State) : State :=
  s.reply (.ackn m.code clamped m.isBroken count)

end Sys2Proof.Machine
end

