-- ==== Sys2Proof/Machine/SignatureBank.lean ====
section
/-! DEFINITION. Chapter 4: the signature slots, sign correlation, and the messages SIGW, SIGE and SIGD. -/

namespace Sys2Proof.Machine

/-! ## Matching (R89 to R94) -/

/-- The data sign of a window triple under a gate (R91). -/
def dataSign (gate : Nat) (t : Triple) : Int :=
  if t.filled then 0
  else if 0 < t.cond.z && decide (gate ≤ t.cond.z.natAbs) then 1
  else if t.cond.z < 0 && decide (gate ≤ t.cond.z.natAbs) then -1
  else 0

/-- What one position contributes: only COMPARE counts, and the product of the two signs is +1, -1 or 0 (R92). -/
def contribution (gate : Nat) (p : Position) (t : Triple) : Int :=
  match p.mask with
  | .compare => dataSign gate t * signOf p.value
  | _ => 0

/-- The score of a window against the positions, oldest first (R92). -/
def scoreOf (gate : Nat) : List Position → List Triple → Int
  | p :: ps, t :: ts => contribution gate p t + scoreOf gate ps ts
  | _, _ => 0

/-- A match, when the score reaches the match level (R92). -/
def SigSlot.isMatch (x : SigSlot) (score : Int) : Bool :=
  decide (0 < score) && decide ((x.compareCount * x.m16 : Nat) ≤ 16 * score)

/-- An inverted match, when it is permitted (R92). -/
def SigSlot.isInverted (x : SigSlot) (score : Int) : Bool :=
  x.invert && decide (score < 0) && decide ((x.compareCount * x.m16 : Nat) ≤ 16 * -score)

/-- The window of a slot on triple `idx`, oldest first; incomplete when the read stops early (R90). -/
def SigSlot.window (x : SigSlot) (r : Ring) (idx : Nat) : Option (List Triple) :=
  let w := r.walkBack x.length idx []
  if w.length = x.length then some w else none

/-- The request a match makes (R93). -/
def SigSlot.request (x : SigSlot) (n : Fin 8) (r : Ring) (idx : Nat) (score : Int) : SigRequest :=
  let onset := idx - (x.length - 1) + x.onsetOffset
  ⟨n, ⟨idx, (r.read idx).time⟩, ⟨onset, (r.read onset).time⟩, score, x.label, decide (score < 0)⟩

/-- A slot's evaluation: its request when the window matches (R90 to R93). -/
def SigSlot.evaluate (x : SigSlot) (n : Fin 8) (r : Ring) (idx : Nat) : Option SigRequest :=
  match x.window r idx with
  | none => none
  | some w =>
    let score := scoreOf x.gate x.positions w
    if x.isMatch score || x.isInverted score then some (x.request n r idx score) else none

/-- A slot's treatment of a triple: passed over, counting down its dead time, or evaluated (R89, R93). -/
def SigSlot.treat (x : SigSlot) (n : Fin 8) (r : Ring) (idx : Nat) : SigSlot × Option SigRequest :=
  if x.state ≠ .active then (x, none)
  else if 0 < x.dead then ({ x with dead := x.dead - 1 }, none)
  else
    match x.evaluate n r idx with
    | none => (x, none)
    | some q => ({ x with dead := x.length }, some q)

/-- Slot `n` treats triple `idx`; a match counts in signature_matches and makes its request (R93). -/
def State.treatSlot (s : State) (idx : Nat) (n : Fin 8) : State :=
  match (s.bank.slots.get n).treat n s.ring idx with
  | (x, none) => { s with bank := { s.bank with slots := s.bank.slots.set n x } }
  | (x, some q) =>
    { s with
      bank := { s.bank with slots := s.bank.slots.set n x, requests := s.bank.requests ++ [q] }
      counters := { s.counters with signatureMatches := ctr s.counters.signatureMatches 1 } }

/-- The slots in order. -/
def slotNumbers : List (Fin 8) := [0, 1, 2, 3, 4, 5, 6, 7]

/-- The bank takes the next ring triple and treats the slots in order of number (R89, R94). -/
def State.signatureTriple (s : State) : State :=
  if s.bank.feed.tripleReady s.ring then
    let idx := s.bank.feed.taken
    slotNumbers.foldl (fun s n => s.treatSlot idx n) { s with bank := { s.bank with feed := s.bank.feed.takeTriple } }
  else s

/-- SIGNATURE_TRIPLE (R89). -/
def execSignatureTriple (s : State) : Answer := .next (s.live State.signatureTriple)

/-- A signal taken: every dead-time counter is 0 (R95, R96). -/
def SignatureBank.interrupt (b : SignatureBank) : SignatureBank :=
  { b with feed := b.feed.takeSignal, slots := b.slots.map fun x => { x with dead := 0 } }

/-- The bank takes a signal of a cause asked for. -/
def State.bankSignal (s : State) (want : Cause → Bool) : State :=
  match s.bank.feed.signalReady with
  | none => s
  | some c => if want c then { s with bank := s.bank.interrupt } else s

/-- SIGNATURE_DISCONTINUITY: GAP, TIME or STOP (R95). -/
def execSignatureDiscontinuity (s : State) : Answer := .next (s.live fun s => s.bankSignal fun c => c != .flush)

/-- SIGNATURE_FLUSH (R96, R180). -/
def execSignatureFlush (s : State) : Answer := .next (s.live fun s => (s.bankSignal fun c => c == .flush).finishFlush)

/-! ## Contents (R80) -/

/-- The slot length: the lowest position holding END, or 256 (R80). -/
def slotLength (ps : List Position) : Nat := (ps.takeWhile fun p => p.mask != .stop).length

/-- The compare count: COMPARE positions below the length (R80). -/
def comparesOf (ps : List Position) : Nat :=
  ((ps.takeWhile fun p => p.mask != .stop).filter fun p => p.mask == .compare).length

/-- A valid signature (R80). -/
def validSignature (ps : List Position) : Bool := decide (8 ≤ slotLength ps) && decide (1 ≤ comparesOf ps)

/-- The slot leaves ACTIVE for LOADING: its dead time is dropped, everything else kept (R81, R88). -/
def SigSlot.loading (x : SigSlot) : SigSlot := { x with state := .loading, dead := 0 }

/-! ## SIGW (R81 to R84) -/

/-- The write pointer after a start index (R82). -/
def SigSlot.startAt (x : SigSlot) (start : Nat) : SigSlot :=
  if start = 0xFFFF then x else { x with writePtr := min start Config.positions }

/-- One pair written at the write pointer, or ignored past the last position (R83). -/
def SigSlot.writePair (x : SigSlot) (p : Int × Nat) : SigSlot :=
  if x.writePtr < Config.positions then
    { x with positions := x.positions.set x.writePtr ⟨max (-127) p.1, maskOf p.2⟩, writePtr := x.writePtr + 1 }
  else x

/-- A pair is clamped or ignored at this pointer (R83). -/
def pairClamped (ptr : Nat) (p : Int × Nat) : Bool :=
  decide (Config.positions ≤ ptr) || p.1 == -128 || decide (2 < p.2)

/-- Some pair of the message is clamped or ignored (R83). -/
def pairsClamped : Nat → List (Int × Nat) → Bool
  | _, [] => false
  | ptr, p :: ps => pairClamped ptr p || pairsClamped (ptr + 1) ps

/-- The start index and pairs of a SIGW applied to a slot (R82, R83). -/
def SigSlot.takeSigw (x : SigSlot) (start : Option Nat) (pairs : List (Int × Nat)) : SigSlot :=
  match start with
  | none => x.loading
  | some v => pairs.foldl SigSlot.writePair (x.loading.startAt v)

/-- SIGW is taken (R81 to R84). -/
def takeSigw (m : InMsg) (s : State) : State :=
  let fs := takeFields [1, 2] m.body
  match fs[0]? with
  | none => ackSettings m false 0 s
  | some v =>
    match slotOf v with
    | none => s.reply (.rfsd m.code .slot)
    | some n =>
      let pairs := if fs.length = 2 then sigPairs (m.body.drop 3) else []
      let x := s.bank.slots.get n
      let clamped := match fs[1]? with
        | none => false
        | some v => (decide (256 ≤ v) && v != 0xFFFF) || pairsClamped (x.startAt v).writePtr pairs
      ackSettings m clamped (fs.length + pairs.length)
        { s with bank := { s.bank with slots := s.bank.slots.set n (x.takeSigw fs[1]? pairs) } }

/-- SIGW. -/
def execSigw (s : State) : Answer := .next (s.live fun s => s.decode (fun m => m.code == 0x18) always takeSigw)

/-! ## SIGE and SIGD (R85 to R88) -/

/-- The parameters of a SIGE stored after clamping, the onset offset against the length given (R85). -/
def SigSlot.store (x : SigSlot) (m : InMsg) (length : Nat) : SigSlot :=
  { x with
    gate := min 8388607 (beVal ((m.body.drop 1).take 3))
    m16 := clamp 1 16 (m.at 4)
    onsetOffset := min (m.at 5) (length - 1)
    label := labelOf (m.at 6)
    invert := decide (m.at 7 ≠ 0) }

/-- A SIGE parameter was clamped (R85). -/
def sigeClamped (m : InMsg) (length : Nat) : Bool :=
  decide (8388607 < beVal ((m.body.drop 1).take 3)) || decide (m.at 4 < 1) || decide (16 < m.at 4) ||
    decide (length - 1 < m.at 5) || decide (1 < m.at 6)

/-- What SIGE makes of a slot: nothing when it is unfit (R85 to R87). -/
def SigSlot.takeSige (x : SigSlot) (m : InMsg) : Option (SigSlot × Bool) :=
  match x.state with
  | .empty => none
  | .active => some (x.store m x.length, sigeClamped m x.length)
  | .loading =>
    if validSignature x.positions then
      let n := slotLength x.positions
      some ({ x.store m n with state := .active, length := n, compareCount := comparesOf x.positions, dead := 0 },
        sigeClamped m n)
    else none

/-- SIGE is taken whole (R85 to R87). -/
def takeSige (m : InMsg) (s : State) : State :=
  match slotOf (m.at 0) with
  | none => s.reply (.rfsd m.code .slot)
  | some n =>
    match (s.bank.slots.get n).takeSige m with
    | none => s.reply (.rfsd m.code .slot)
    | some (x, clamped) =>
      ({ s with bank := { s.bank with slots := s.bank.slots.set n x } }).reply (.ackn m.code clamped false 6)

/-- SIGE. -/
def execSige (s : State) : Answer := .next (s.live fun s => s.decode (fun m => m.code == 0x19) always (action 8 takeSige))

/-- SIGD is taken whole (R88). -/
def takeSigd (m : InMsg) (s : State) : State :=
  match slotOf (m.at 0) with
  | none => s.reply (.rfsd m.code .slot)
  | some n =>
    let x := s.bank.slots.get n
    match x.state with
    | .empty => s.reply (.rfsd m.code .slot)
    | .loading => s.reply (.ackn m.code false false 1)
    | .active =>
      ({ s with bank := { s.bank with slots := s.bank.slots.set n x.loading } }).reply (.ackn m.code false false 1)

/-- SIGD. -/
def execSigd (s : State) : Answer := .next (s.live fun s => s.decode (fun m => m.code == 0x1A) always (action 1 takeSigd))

end Sys2Proof.Machine
end

