-- ==== Sys2Proof/Machine/Snippets.lean ====
section
/-! DEFINITION. Chapter 7: taking a snippet slot, capture, cutting, segments, freeing, and the message SNIP. -/

namespace Sys2Proof.Machine

/-! ## Slots (R141, R150) -/

/-- Triples copied so far. -/
def SnipSlot.captured (x : SnipSlot) : Nat := x.triples.length

/-- The number of the snippet's triple 0. -/
def SnipSlot.start (x : SnipSlot) : Nat := x.onset.idx - x.preCount

/-- The number of the next triple to copy. -/
def SnipSlot.nextIdx (x : SnipSlot) : Nat := x.start + x.captured

/-- The number of the span's last triple (R143). -/
def SnipSlot.spanEnd (x : SnipSlot) : Nat := x.onset.idx + x.post - 1

/-- The planned length (section 7.1). -/
def SnipSlot.planned (x : SnipSlot) : Nat := x.preCount + x.post

/-- A FILLING slot whose capture completes is READY; any other keeps its state (R146, R150). -/
def SnipState.completed : SnipState → SnipState
  | .filling => .ready
  | x => x

/-- Capture is complete at the planned length (R146). -/
def SnipSlot.finish (x : SnipSlot) : SnipSlot := { x with length := x.planned, complete := true, state := x.state.completed }

/-- The cut: the length becomes the captured count (R150). -/
def SnipSlot.cutNow (x : SnipSlot) : SnipSlot :=
  { x with length := x.captured, complete := true, cut := true, state := x.state.completed }

/-- The slot copies a triple, and is complete when that was the span's last (R146). -/
def SnipSlot.copy (x : SnipSlot) (t : Triple) : SnipSlot :=
  let y := { x with triples := x.triples ++ [⟨t.raw, t.time⟩] }
  if y.captured = y.planned then y.finish else y

/-- The slot is still capturing. -/
def SnipSlot.capturing (x : SnipSlot) : Bool := x.state != .free && !x.complete

/-! ## Taking a slot (R142 to R145) -/

/-- The forward copy: triples below number `limit`, stopping before a DISC triple other than triple 0 (R144). -/
def SnipSlot.copyHeld (r : Ring) (limit : Nat) : Nat → SnipSlot → SnipSlot
  | 0, x => x
  | n + 1, x =>
    let t := r.read x.nextIdx
    if decide (x.nextIdx < limit) && !x.complete && (x.captured == 0 || !t.disc) then copyHeld r limit n (x.copy t) else x

/-- The slot of a pick: backward copy, then forward copy, up to the boundary when it is late (R142 to R145). A late slot whose
copies do not complete it is cut at once (R145, log 22); `true` says so. Where the onset triple has itself been overwritten, the
walk stops at once and the pre count is 0 (log 33). -/
def SnippetStore.capture (st : SnippetStore) (r : Ring) (p : Pick) : SnipSlot × Bool :=
  let back := r.walkBack (st.settings.pre + 1) p.onset.idx []
  let late := match st.boundary with
    | none => false
    | some b => decide (p.onset.idx < b)
  let limit := if late then st.boundary.getD r.written else r.written
  let x : SnipSlot :=
    { state := .filling
      pick := p.number
      pre := st.settings.pre
      post := st.settings.post
      size := st.settings.size
      onset := p.onset
      preCount := back.length - 1
      length := 0
      complete := false
      cut := false
      triples := back.dropLast.map fun t => ⟨t.raw, t.time⟩ }
  let x := SnipSlot.copyHeld r limit st.settings.post x
  if late && !x.complete then (x.cutNow, true) else (x, false)

/-- The lowest FREE slot (R142). -/
def SnippetStore.lowestFree (st : SnippetStore) : Option (Fin 8) := slotNumbers.find? fun n => (st.slots.get n).state == .free

/-- One more cut counted in snippet_cut. -/
def State.countCut (s : State) : State :=
  { s with counters := { s.counters with snippetCut := ctr s.counters.snippetCut 1 } }

/-- Slot `n` is taken for a pick (R142). -/
def State.takeSlot (s : State) (n : Fin 8) (p : Pick) : State :=
  let (x, wasCut) := s.snips.capture s.ring p
  let s := { s with snips := { s.snips with slots := s.snips.slots.set n x } }
  if wasCut then s.countCut else s

/-- Slot `n` becomes FREE (R152). -/
def State.freeSlot (s : State) (n : Fin 8) : State :=
  { s with snips := { s.snips with slots := s.snips.slots.set n .reset } }

/-! ## Capture and cutting (R146, R150, R151) -/

/-- Slot `n` is offered triple `idx`: it copies it, or is cut by a DISC triple, when it is its next (R146). -/
def State.offerSlot (s : State) (idx : Nat) (t : Triple) (n : Fin 8) : State :=
  let x := s.snips.slots.get n
  if x.capturing && decide (x.nextIdx = idx) then
    if t.disc then ({ s with snips := { s.snips with slots := s.snips.slots.set n x.cutNow } }).countCut
    else { s with snips := { s.snips with slots := s.snips.slots.set n (x.copy t) } }
  else s

/-- The store takes the next ring triple (R146). -/
def State.snippetTriple (s : State) : State :=
  if s.snips.feed.tripleReady s.ring then
    let idx := s.snips.feed.taken
    let t := s.ring.read idx
    slotNumbers.foldl (fun s n => s.offerSlot idx t n) { s with snips := { s.snips with feed := s.snips.feed.takeTriple } }
  else s

/-- SNIPPET_TRIPLE (R146). -/
def execSnippetTriple (s : State) : Answer := .next (s.live State.snippetTriple)

/-- Slot `n` is cut if its capture is incomplete (R150). -/
def State.cutSlot (s : State) (n : Fin 8) : State :=
  let x := s.snips.slots.get n
  if x.capturing then ({ s with snips := { s.snips with slots := s.snips.slots.set n x.cutNow } }).countCut else s

/-- A signal of any cause taken: every incomplete slot is cut in order, and the boundary is set to the newest triple written
(R151, log 9). -/
def State.snippetSignal (s : State) : State :=
  match s.snips.feed.signalReady with
  | none => s
  | some _ =>
    let s := slotNumbers.foldl State.cutSlot { s with snips := { s.snips with feed := s.snips.feed.takeSignal } }
    { s with snips := { s.snips with boundary := some s.ring.written } }

/-- SNIPPET_DISCONTINUITY (R151, R180). -/
def execSnippetDiscontinuity (s : State) : Answer := .next (s.live fun s => s.snippetSignal.finishFlush)

/-! ## Segments (R147 to R149) -/

/-- The number of the segment that carries LAST, once the length is fixed: a cut at a multiple of the size has a closing
segment (R147). -/
def SnipSlot.lastSegment (x : SnipSlot) : Nat :=
  if x.cut then x.length / x.size else (x.length + x.size - 1) / x.size - 1

/-- Segment `k` is available (R148). -/
def SnipSlot.available (x : SnipSlot) (k : Nat) : Bool :=
  decide ((k + 1) * x.size ≤ x.captured) || (x.complete && decide (k = x.lastSegment))

/-- Segment `k` carries LAST (R147). -/
def SnipSlot.isLast (x : SnipSlot) (k : Nat) : Bool := x.complete && decide (k = x.lastSegment)

/-- The triples of segment `k` (R147). -/
def SnipSlot.segment (x : SnipSlot) (k : Nat) : List SnipTriple := (x.triples.drop (k * x.size)).take x.size

/-- The first triple time of segment `k`; a closing segment carries the time of the last captured triple (R149). -/
def SnipSlot.segmentTime (x : SnipSlot) (k : Nat) : Nat :=
  match (x.segment k).head?, x.triples.getLast? with
  | some t, _ => t.time
  | none, some t => t.time
  | none, none => 0

/-! ## SNIP (R153) -/

/-- SNIP's fields: pre, post, segment size. -/
def snipFields (m : InMsg) : List Nat := takeFields [1, 2, 1] m.body

/-- The snippet settings with the received fields stored (R153). -/
def SnipSettings.store (p : SnipSettings) (fs : List Nat) : SnipSettings where
  pre := setting fs 0 0 255 p.pre
  post := setting fs 1 1 511 p.post
  size := setting fs 2 4 24 p.size

/-- The pair check: pre + post at most 512 (R153). -/
def SnipSettings.pairs (p : SnipSettings) : SnipSettings := { p with post := min p.post (512 - p.pre) }

/-- A received SNIP field was clamped (R153). -/
def snipClamped (fs : List Nat) : Bool := outside fs 1 1 511 || outside fs 2 4 24

/-- SNIP is taken. -/
def takeSnip (m : InMsg) (s : State) : State :=
  let fs := snipFields m
  let stored := s.snips.settings.store fs
  ackSettings m (snipClamped fs || stored.pairs != stored) fs.length
    { s with snips := { s.snips with settings := stored.pairs } }

/-- SNIP. -/
def execSnip (s : State) : Answer := .next (s.live fun s => s.decode (fun m => m.code == 0x14) always takeSnip)

end Sys2Proof.Machine
end

