-- ==== Sys2Proof/Machine/Messages.lean ====
section
/-! DEFINITION. Chapter 9, outbound: the codes and bodies of the messages the part sends (R183 to R190). -/

namespace Sys2Proof.Machine

/-- A reply's message code (R183). -/
def Reply.code : Reply → Byte
  | .ackn .. => 0x41
  | .rfsd .. => 0x42
  | .strp .. => 0x43
  | .cntp .. => 0x44

/-- The STRP body, 39 bytes (R186). -/
def StatusReport.body (r : StatusReport) : List Byte :=
  field 1 r.input.code ++ field 6 r.lastTime ++ field 1 r.stateV.code ++ field 2 r.ratioV ++ field 1 r.stateH.code ++
    field 2 r.ratioH ++ field 1 r.pending ++ field 1 r.events ++ r.records.toList.flatMap (field 1) ++
    r.credits.toList.flatMap (field 1) ++ r.snips.toList.flatMap (fun x => field 1 x.code) ++
    r.sigs.toList.flatMap (fun x => field 1 x.code)

/-- The 24 counters in the order of CNTP (R187). -/
def Counters.list (c : Counters) : List Nat :=
  [c.blocksGood, c.blocksBadCount, c.blocksBadCheck, c.blocksWrongStream, c.blocksDuplicate, c.gapsFilled, c.gapsLong,
    c.timeBackward, c.pickOverrun, c.glitches, c.picksMerged, c.pendingFlushed, c.signatureMatches, c.eventsForced,
    c.routeDiscards, c.snippetLost] ++ c.poolLost.toList ++
    [c.snippetCut, c.linkFramingErrors, c.linkBrokenMessages, c.linkOverrun]

/-- A reply's body (R184, R186, R187). -/
def Reply.body : Reply → List Byte
  | .ackn code clamped cut count => [code] ++ field 1 (ackFlags clamped cut) ++ field 1 count
  | .rfsd code reason => [code] ++ field 1 reason.code
  | .strp r => r.body
  | .cntp cleared c => field 1 (bit cleared 1) ++ c.list.flatMap (field 4)

/-- The NOTE body (R185). -/
def PendingNotice.body (p : PendingNotice) : List Byte := field 1 p.notice.code ++ field 1 p.notice.queue ++ field 1 p.count

/-- The REDY body (R185). -/
def ResetCause.body (c : ResetCause) : List Byte := field 1 Config.revision ++ field 1 c.code

/-- An optional part of a body. -/
def optPart {α : Type} (f : α → List Byte) : Option α → List Byte
  | none => []
  | some a => f a

/-- The PICK body, 37 bytes and the optional parts (R188). -/
def PickReport.body (r : PickReport) : List Byte :=
  let p := r.pick
  field 2 p.number ++ field 1 p.kind.code ++ field 1 p.source.code ++ field 1 p.phase.code ++ field 1 p.classification.code ++
    field 6 p.onset.time ++ field 6 p.triggerTime ++ field 1 p.grade ++ field 1 p.polarity.code ++ field 2 p.snr16 ++
    field 2 p.hv16 ++ field 3 p.peakAmplitude ++ field 1 p.peakComponent.code ++ field 1 p.peakOffset ++
    field 2 p.measured ++ field 2 r.event ++ field 1 r.role.code ++ field 2 r.flags ++ field 1 p.presence ++
    optPart (fun n : Fin 8 => field 1 n.val) p.confirmedBy ++ optPart (field 2) p.coincident ++
    optPart (signedField 2) p.score

/-- A member of an event as EVNT carries it (R189). -/
def Member.body (m : Member) : List Byte := field 2 m.number ++ field 6 m.onset

/-- The EVNT body, 14 bytes and the optional parts (R189). -/
def EventReport.body (r : EventReport) : List Byte :=
  field 2 r.number ++ field 1 (bit r.cause.isSome 1) ++ field 1 (closeCode r.cause) ++ field 6 r.first ++ field 2 r.count ++
    field 1 r.flags ++ field 1 r.presence ++ optPart Member.body r.p ++ optPart Member.body r.s ++ optPart (field 2) r.sp

/-- A captured triple as SEGM carries it (R190). -/
def SnipTriple.body (t : SnipTriple) : List Byte := signedField 3 t.raw.z ++ signedField 3 t.raw.n ++ signedField 3 t.raw.e

/-- The SEGM body of segment `k` of a slot (R149, R190). -/
def SnipSlot.segmentBody (x : SnipSlot) (k : Nat) : List Byte :=
  field 2 x.pick ++ field 1 k ++ field 1 (segFlags (x.isLast k) (x.isLast k && x.cut)) ++ field 6 (x.segmentTime k) ++
    field 1 (x.segment k).length ++ (x.segment k).flatMap SnipTriple.body

end Sys2Proof.Machine
end

