-- ==== Sys2Proof/Machine/Queues.lean ====
section
/-! DEFINITION. Chapter 6: pick classes and routing, the Report Pool with admission and eviction, credits, hold timers, ready
and starved, and the messages ROUT, QSET, GRNT and QRST. -/

namespace Sys2Proof.Machine

/-! ## Routing (R119 to R121) -/

/-- The phase code of a class index: 3 for any SECONDARY pick (R119). -/
def classPhase (p : Pick) : Nat := if p.kind = .secondary then 3 else p.phase.code

/-- The class index (R119). -/
def classIndex (p : Pick) : Nat := 16 * p.grade + 4 * classPhase p + 2 * bit (p.kind == .signature) 1 + bit p.clipped 1

/-- The Route Table entry of a class. -/
def State.routeFor (s : State) (i : Nat) : RouteEntry := (s.routes[i]?).getD ⟨some 0, false⟩

/-- What routing makes of a pick: nothing, or its arrival at a queue; with the counters it moves (R121). -/
def State.routeOne (s : State) (p : Pick) (event : Nat) (role : Role) : List Handed × Counters :=
  let e := s.routeFor (classIndex p)
  match e.dest with
  | none => ([], { s.counters with routeDiscards := ctr s.counters.routeDiscards 1 })
  | some q =>
    if !e.attach then ([.routed q ⟨p, event, role, .none⟩], s.counters)
    else if s.snips.lowestFree.isSome then ([.routed q ⟨p, event, role, .snippet⟩], s.counters)
    else ([.routed q ⟨p, event, role, .lost⟩], { s.counters with snippetLost := ctr s.counters.snippetLost 1 })

/-- The reports that stand before the first pick of the outbox, that pick, and the rest. -/
def firstPick : List Handed → Option (List Handed × Handed × List Handed)
  | [] => none
  | .report q r :: hs => (firstPick hs).map fun (b, p, a) => (.report q r :: b, p, a)
  | h :: hs => some ([], h, hs)

/-- Routing takes the first pick not yet routed, once no routed pick waits before it for admission (R121, R142, log 11). -/
def State.routePick (s : State) : State :=
  match firstPick s.outbox with
  | some (before, .toRoute p event role, after) =>
    let (h, c) := s.routeOne p event role
    { s with outbox := before ++ h ++ after, counters := c }
  | _ => s

/-- ROUTE_PICK (R121). -/
def execRoutePick (s : State) : Answer := .next (s.live State.routePick)

/-! ## Ready and starved (R129 to R131) -/

/-- A queue left empty stops its timer and clears its ready state (R129, R130). -/
def Queue.settle (q : Queue) : Queue :=
  if q.records.isEmpty then { q with timer := .stopped, expiry := false, ready := false } else q

/-- A condition for ready holds, and takes effect while the queue holds records (R130). -/
def Queue.makeReady (q : Queue) (cond : Bool) : Queue := { q with ready := q.ready || (cond && !q.records.isEmpty) }

/-- The starvation test would set starved (R131). -/
def Queue.starves (q : Queue) : Bool := q.ready && !q.records.isEmpty && q.credits == 0 && !q.starved

/-- Queue `i` replaced, after its starvation test; STARVED(i) is raised when the test sets starved (R131). -/
def State.putQueue (s : State) (i : Fin 4) (q : Queue) : State :=
  if q.starves then ({ s with queues := s.queues.set i { q with starved := true } }).notify (.starved i)
  else { s with queues := s.queues.set i q }

/-! ## Losses, eviction, admission (R124 to R126) -/

/-- `k` records lost on queue `i`: counted, with POOL_LOSS(i) when the loss note is clear (R126). -/
def State.loseOn (s : State) (i : Fin 4) (k : Nat) : State :=
  if k = 0 then s
  else
    let s := { s with counters := { s.counters with
      poolLost := s.counters.poolLost.set i (ctr (s.counters.poolLost.get i) k) } }
    if (s.queues.get i).lossNote then s
    else ({ s with queues := s.queues.set i { s.queues.get i with lossNote := true } }).notify (.poolLoss i)

/-- Victims of one queue, oldest first, until `lack` records are free: those that stay and those evicted (R125). A PICK takes the
snippet item directly behind it along; an item that has sent a segment stays. An item whose PICK was sent is a victim until its
first segment is taken, by R123, R125, R136 and R152 against the last sentence of R135 (log 32). -/
def evictFrom : Nat → List Record → List Record × List Record
  | 0, rs => (rs, [])
  | _ + 1, [] => ([], [])
  | n + 1, .pick p :: .item sl k :: rs =>
    let (stay, out) := evictFrom (n - 1) rs
    (stay, .pick p :: .item sl k :: out)
  | n + 1, .pick p :: rs =>
    let (stay, out) := evictFrom n rs
    (stay, .pick p :: out)
  | n + 1, .evnt r :: rs =>
    let (stay, out) := evictFrom n rs
    (stay, .evnt r :: out)
  | n + 1, .item sl k :: rs =>
    if k = 0 then
      let (stay, out) := evictFrom n rs
      (stay, .item sl k :: out)
    else
      let (stay, out) := evictFrom (n + 1) rs
      (.item sl k :: stay, out)

/-- How many records a queue's victims could free (R125). -/
def freeable (rs : List Record) : Nat := (evictFrom rs.length rs).2.length

/-- The slots that a run of records names. -/
def slotsOf : List Record → List (Fin 8)
  | [] => []
  | .item sl _ :: rs => sl :: slotsOf rs
  | _ :: rs => slotsOf rs

/-- Several slots become FREE (R152). -/
def State.freeSlots (s : State) (ns : List (Fin 8)) : State := ns.foldl State.freeSlot s

/-- Eviction of up to `lack` records from queue `i` (R125, R126). -/
def State.evictQueue (s : State) (i : Fin 4) (lack : Nat) : State :=
  let q := s.queues.get i
  let (stay, out) := evictFrom lack q.records
  if out.isEmpty then s
  else
    let s := ({ s with queues := s.queues.set i { q with records := stay } }.freeSlots (slotsOf out)).loseOn i out.length
    s.putQueue i (s.queues.get i).settle

/-- The queues whose records an arrival to queue `q` may push out, in the order of the victim list (R125). -/
def victimQueues (q : Fin 4) : List (Fin 4) := ([3, 2, 1] : List (Fin 4)).filter fun i => q < i

/-- Records held in the pool (R123). -/
def State.poolHeld (s : State) : Nat := (s.queues.map fun q => q.records.length).toList.sum

/-- Eviction in list order, until the lack is met. -/
def State.evictAll (s : State) : List (Fin 4) → Nat → State
  | [], _ => s
  | i :: is, lack =>
    let freed := (evictFrom lack (s.queues.get i).records).2.length
    (s.evictQueue i lack).evictAll is (lack - freed)

/-- Room for `n` records at queue `q`: the state when there is or can be made room, none when the arrival is lost (R124, R125). -/
def State.makeRoom (s : State) (q : Fin 4) (n : Nat) : Option State :=
  let lack := s.poolHeld + n - Config.poolSize
  if lack = 0 then some s
  else if lack ≤ ((victimQueues q).map fun i => freeable (s.queues.get i).records).sum then
    some (s.evictAll (victimQueues q) lack)
  else none

/-- Records at the tail of a queue: an empty queue starts its hold timer, and the queue becomes ready at its batch level or with
a hold time of 0 (R124, R129, R130). -/
def Queue.accept (q : Queue) (rs : List Record) : Queue :=
  let grown := { q with
    records := q.records ++ rs
    timer := if q.records.isEmpty then .running 0 else q.timer
    expiry := if q.records.isEmpty then false else q.expiry }
  grown.makeReady (decide (q.batch ≤ grown.records.length) || q.hold == 0)

/-- Records admitted to queue `i`, with its eligibility test. -/
def State.accept (s : State) (i : Fin 4) (rs : List Record) : State := s.putQueue i ((s.queues.get i).accept rs)

/-- An arrival of one record is taken (R124). -/
def State.arriveOne (s : State) (i : Fin 4) (r : Record) : State :=
  match s.makeRoom i 1 with
  | none => s.loseOn i 1
  | some s => s.accept i [r]

/-- An arrival of a PICK with its snippet item is taken; at the admission the store takes the lowest FREE slot (R124, R142), be it one that
the admission's own eviction has freed: the model's reading of R142 and R152 (log 35). -/
def State.arriveSnippet (s : State) (i : Fin 4) (r : PickReport) : Answer :=
  match s.makeRoom i 2 with
  | none => .next (s.loseOn i 2)
  | some s =>
    match s.snips.lowestFree with
    | none => .fault .snippetSlotMissing
    | some n => .next ((s.takeSlot n r.pick).accept i [.pick r, .item n 0])

/-- An arrival that would be admitted with a snippet slot waits while the pick's onset was written after a signal that the store has still to
take: its copies would treat triples of the new run before the signal (R17, log 36). -/
def State.slotWaits (s : State) (i : Fin 4) (r : PickReport) : Bool :=
  s.snips.feed.holdsBack r.pick.onset.idx && (s.makeRoom i 2).isSome

/-- QUEUE_ARRIVAL: the oldest arrival in the outbox is taken whole (R124, R125, R126). -/
def execQueueArrival (s : State) : Answer :=
  if s.resetLow then .next s
  else
    match s.outbox with
    | .report q r :: hs => .next (({ s with outbox := hs }).arriveOne q (.evnt r))
    | .routed q r :: hs =>
      if r.mark = .snippet then (if s.slotWaits q r then .next s else ({ s with outbox := hs }).arriveSnippet q r)
      else .next (({ s with outbox := hs }).arriveOne q (.pick r))
    | _ => .next s

/-! ## Local time (R129, R192) -/

/-- A tick at one queue: a running timer gains one, up to the longest hold time, and expires when it reaches a hold time above 0
(R129, R192, log 15). -/
def Queue.tick (q : Queue) : Queue :=
  match q.timer with
  | .running n =>
    let n' := min (n + 1) Config.holdTop
    if q.hold ≠ 0 && decide (q.hold ≤ n') then { q with timer := .expired, expiry := true } else { q with timer := .running n' }
  | _ => q

/-- LOCAL_TICK (R192). -/
def execLocalTick (s : State) : Answer :=
  .next (s.live fun s => { s with localTime := s.localTime + 1, queues := s.queues.map Queue.tick })

/-- Queue `i` takes the expiry of its timer: it becomes ready and makes its eligibility test (R129, R130). -/
def State.takeExpiry (s : State) (i : Fin 4) : State :=
  let q := s.queues.get i
  if q.expiry then s.putQueue i ({ q with expiry := false }.makeReady true) else s

/-- HOLD_TIMER_EXPIRY (R129). -/
def execHoldTimerExpiry (queue : Nat) (s : State) : Answer :=
  .next (s.live fun s => match queueOf queue with
    | none => s
    | some i => s.takeExpiry i)

/-! ## ROUT (R122) -/

/-- Entry bytes written from an index on; those past the table are ignored (R122). -/
def writeRoutes (routes : List RouteEntry) : Nat → List Byte → List RouteEntry
  | _, [] => routes
  | i, b :: bs => writeRoutes (routes.set i (routeOf b)) (i + 1) bs

/-- ROUT is taken (R122). -/
def takeRout (m : InMsg) (s : State) : State :=
  match m.body with
  | [] => ackSettings m false 0 s
  | first :: entries =>
    let i := min first.toNat Config.routes
    ackSettings m (decide (64 ≤ first.toNat) || decide (Config.routes < i + entries.length)) (1 + entries.length)
      { s with routes := writeRoutes s.routes i entries }

/-- ROUT. -/
def execRout (s : State) : Answer := .next (s.live fun s => s.decode (fun m => m.code == 0x10) always takeRout)

/-! ## QSET, GRNT, QRST (R127, R128, R133, R137) -/

/-- A running timer has reached a hold time just set (R129). -/
def Queue.holdReached (q : Queue) : Bool :=
  match q.timer with
  | .running n => q.hold != 0 && decide (q.hold ≤ n)
  | _ => false

/-- QSET's fields applied to its queue: a running timer expires at once when it has reached the new hold time, and ready is set by
the new values (R129, R130, R133). -/
def Queue.applyQset (q : Queue) (fs : List Nat) : Queue :=
  let q := { q with batch := setting fs 1 1 32 q.batch, hold := setting fs 2 0 Config.holdTop q.hold }
  let cond := decide (q.batch ≤ q.records.length) || q.hold == 0 || q.holdReached
  { q with timer := if q.holdReached then .expired else q.timer }.makeReady cond

/-- QSET is taken (R133). -/
def takeQset (m : InMsg) (s : State) : State :=
  let fs := takeFields [1, 1, 2] m.body
  match fs[0]? with
  | none => ackSettings m false 0 s
  | some v =>
    match queueOf v with
    | none => s.reply (.rfsd m.code .slot)
    | some i =>
      ackSettings m (outside fs 1 1 32 || outside fs 2 0 Config.holdTop) fs.length
        (s.putQueue i ((s.queues.get i).applyQset fs))

/-- QSET. -/
def execQset (s : State) : Answer := .next (s.live fun s => s.decode (fun m => m.code == 0x11) always takeQset)

/-- A grant: the credits rise by `n` up to 255, and the starvation episode ends (R127, R128, R131). -/
def Queue.grant (q : Queue) (n : Nat) : Queue := { q with credits := min 255 (q.credits + n), starved := false }

/-- GRNT is taken whole (R128). -/
def takeGrnt (m : InMsg) (s : State) : State :=
  match queueOf (m.at 0) with
  | none => s.reply (.rfsd m.code .slot)
  | some i =>
    let n := max 1 (m.at 1)
    (s.putQueue i ((s.queues.get i).grant n)).reply
      (.ackn m.code (m.at 1 == 0 || decide (255 < (s.queues.get i).credits + n)) false 2)

/-- GRNT. -/
def execGrnt (s : State) : Answer := .next (s.live fun s => s.decode (fun m => m.code == 0x12) always (action 2 takeGrnt))

/-- A queue emptied by QRST: batch level and hold time are kept (R137). -/
def Queue.empty (q : Queue) : Queue := { Queue.reset with batch := q.batch, hold := q.hold }

/-- QRST is taken whole (R137). -/
def takeQrst (m : InMsg) (s : State) : State :=
  match queueOf (m.at 0) with
  | none => s.reply (.rfsd m.code .slot)
  | some i =>
    let q := s.queues.get i
    ({ s.freeSlots (slotsOf q.records) with queues := s.queues.set i q.empty }).reply (.ackn m.code false false 1)

/-- QRST. -/
def execQrst (s : State) : Answer := .next (s.live fun s => s.decode (fun m => m.code == 0x13) always (action 1 takeQrst))

end Sys2Proof.Machine
end

