-- ==== Sys2Proof/Machine/Arbiter.lean ====
section
/-! DEFINITION. The outbound arbiter (R172): what it chooses at a message boundary, and the take of each kind of message. -/

namespace Sys2Proof.Machine

/-- What the arbiter may choose. -/
inductive Choice where
  | redy (c : ResetCause)
  | reply (r : Reply)
  | notice (n : PendingNotice)
  | record (q : Fin 4) (r : Record)
  deriving DecidableEq, Repr

/-- A head record can be sent: a snippet item when its next segment is available (R134, R135). -/
def SnippetStore.canSend (st : SnippetStore) : Record → Bool
  | .item n k => (st.slots.get n).available k
  | _ => true

/-- The head record of a queue that is offering: ready, with credit, and its head can be sent (R130, R134). -/
def State.offered (s : State) (i : Fin 4) : Option Record :=
  let q := s.queues.get i
  if q.ready && decide (0 < q.credits) then q.records.head?.filter s.snips.canSend else none

/-- The lowest-numbered offering queue with its head record. -/
def State.offeredRecord (s : State) : Option (Fin 4 × Record) :=
  ([0, 1, 2, 3] : List (Fin 4)).findSome? fun i => (s.offered i).map fun r => (i, r)

/-- The arbiter's choice (R171, R172): REDY, else the oldest reply, else the oldest notice, else the lowest offering queue. -/
def State.choice (s : State) : Option Choice :=
  if s.link.free then
    match s.link.redy, s.link.replies, s.link.notices with
    | some c, _, _ => some (.redy c)
    | none, r :: _, _ => some (.reply r)
    | none, [], n :: _ => some (.notice n)
    | none, [], [] => s.offeredRecord.map fun (i, r) => .record i r
  else none

/-- A message starts on the line (R172, R173). -/
def State.send (s : State) (code : Byte) (body : List Byte) : State := { s with link := s.link.start code body }

/-- The oldest reply taken: its place is free at once (R168). -/
def State.sendReply (s : State) (r : Reply) : State :=
  ({ s with link := { s.link with replies := s.link.replies.tail } }).send r.code r.body

/-- A PICK or EVNT record taken: it leaves the queue and the pool, a credit is spent, and the queue makes its eligibility test
(R134). -/
def State.takeHead (s : State) (i : Fin 4) : State :=
  let q := s.queues.get i
  s.putQueue i { q with records := q.records.tail, credits := q.credits - 1 }.settle

/-- A snippet item's next segment taken: a credit is spent, the item counts it and its slot is SENDING; at LAST the item leaves and
the slot is freed (R135, R149, R152). -/
def State.takeSegment (s : State) (i : Fin 4) (n : Fin 8) (k : Nat) : State :=
  let x := s.snips.slots.get n
  let q := s.queues.get i
  if x.isLast k then
    (s.freeSlot n).putQueue i { q with records := q.records.tail, credits := q.credits - 1 }.settle
  else
    ({ s with snips := { s.snips with slots := s.snips.slots.set n { x with state := .sending } } }).putQueue i
      { q with records := .item n (k + 1) :: q.records.tail, credits := q.credits - 1 }

/-- REDY's step (R171). -/
def State.takeRedy (s : State) : State :=
  match s.choice with
  | some (.redy c) => ({ s with link := { s.link with redy := none } }).send 0x49 c.body
  | _ => s

/-- REDY. -/
def execRedy (s : State) : Answer := .next (s.live State.takeRedy)

/-- ACKN's step (R184). -/
def State.takeAckn (s : State) : State :=
  match s.choice with
  | some (.reply (.ackn code clamped cut count)) => s.sendReply (.ackn code clamped cut count)
  | _ => s

/-- ACKN. -/
def execAckn (s : State) : Answer := .next (s.live State.takeAckn)

/-- RFSD's step (R166). -/
def State.takeRfsd (s : State) : State :=
  match s.choice with
  | some (.reply (.rfsd code reason)) => s.sendReply (.rfsd code reason)
  | _ => s

/-- RFSD. -/
def execRfsd (s : State) : Answer := .next (s.live State.takeRfsd)

/-- STRP's step (R186). -/
def State.takeStrp (s : State) : State :=
  match s.choice with
  | some (.reply (.strp r)) => s.sendReply (.strp r)
  | _ => s

/-- STRP. -/
def execStrp (s : State) : Answer := .next (s.live State.takeStrp)

/-- CNTP's step (R187). -/
def State.takeCntp (s : State) : State :=
  match s.choice with
  | some (.reply (.cntp cleared c)) => s.sendReply (.cntp cleared c)
  | _ => s

/-- CNTP. -/
def execCntp (s : State) : Answer := .next (s.live State.takeCntp)

/-- NOTE's step: the oldest notice's place is emptied (R170). -/
def State.takeNote (s : State) : State :=
  match s.choice with
  | some (.notice n) => ({ s with link := { s.link with notices := s.link.notices.tail } }).send 0x48 n.body
  | _ => s

/-- NOTE. -/
def execNote (s : State) : Answer := .next (s.live State.takeNote)

/-- PICK's step (R134, R188). -/
def State.takePickRecord (s : State) : State :=
  match s.choice with
  | some (.record i (.pick r)) => (s.takeHead i).send 0x50 r.body
  | _ => s

/-- PICK. -/
def execPick (s : State) : Answer := .next (s.live State.takePickRecord)

/-- EVNT's step (R134, R189). -/
def State.takeEvntRecord (s : State) : State :=
  match s.choice with
  | some (.record i (.evnt r)) => (s.takeHead i).send 0x51 r.body
  | _ => s

/-- EVNT. -/
def execEvnt (s : State) : Answer := .next (s.live State.takeEvntRecord)

/-- SEGM's step: the message is made from the slot as it stands at the take (R135, R149, R190). -/
def State.takeSegmRecord (s : State) : State :=
  match s.choice with
  | some (.record i (.item n k)) => (s.takeSegment i n k).send 0x52 ((s.snips.slots.get n).segmentBody k)
  | _ => s

/-- SEGM. -/
def execSegm (s : State) : Answer := .next (s.live State.takeSegmRecord)

end Sys2Proof.Machine
end

