-- ==== Sys2Proof/Machine/Association.lean ====
section
/-! DEFINITION. Chapter 5: placing completed picks into events, closing events, the gap note and the time fence, event reports,
and the message EVTS. -/

namespace Sys2Proof.Machine

/-! ## Event reports (R116) -/

/-- The S-P interval of a report, in samples: rounded by half a period and truncated (R116). -/
def spSamples (period : Nat) (p s : Option Member) : Option Nat :=
  match p, s with
  | some p, some s => some ((s.onset - p.onset + period / 2) / period)
  | _, _ => none

/-- The CLOSE report of an event (R116). -/
def Event.closeReport (ev : Event) (period : Nat) (c : CloseCause) : EventReport :=
  ⟨ev.number, some c, ev.first, ev.count, ev.sFirst, ev.pAdopted, ev.p, ev.s, spSamples period ev.p ev.s⟩

/-- The OPEN report of an event just opened (R116). -/
def Event.openReport (ev : Event) : EventReport := ⟨ev.number, none, ev.first, ev.count, ev.sFirst, ev.pAdopted, ev.p, ev.s, none⟩

/-- A report is handed on for the event queue in force, or lost when that is DISCARD (R116). -/
def State.handReport (s : State) (r : EventReport) : State :=
  match s.assoc.settings.queue with
  | none => s
  | some q => { s with outbox := s.outbox ++ [.report q r] }

/-- CLOSE reports of several events, in table order. -/
def State.handCloses (s : State) (cause : Event → CloseCause) (evs : List Event) : State :=
  evs.foldl (fun s ev => s.handReport (ev.closeReport s.period (cause ev))) s

/-- The events that answer a test leave the table and have their CLOSE reports made, in table order (R100, R116). -/
def State.closeWhere (s : State) (test : Event → Bool) (cause : Event → CloseCause) : State :=
  ({ s with assoc := { s.assoc with events := s.assoc.events.filter fun ev => !test ev } }).handCloses cause
    (s.assoc.events.filter test)

/-! ## Joining and opening (R103 to R109) -/

/-- A window of samples as a time (R1). -/
def State.window (s : State) (n : Nat) : Nat := n * s.period

/-- The interval from onset `a` to onset `b` lies in the S-P range (R102). -/
def State.inSpRange (s : State) (a b : Nat) : Bool :=
  decide (a + s.window s.assoc.settings.spMin ≤ b) && decide (b ≤ a + s.window s.assoc.settings.spMax)

/-- A pick joins an event (R108). -/
def Event.join (ev : Event) (onset : Nat) : Event :=
  { ev with count := satAdd 65535 ev.count 1, first := min ev.first onset, last := max ev.last onset }

/-- R103: among the events whose P onset is within the tolerance of `t`, the one with the nearest P onset. -/
def State.duplicateOf (s : State) (t : Nat) : Option Nat :=
  best (fun ev : Event =>
    match ev.p with
    | some p =>
      if timeDist p.onset t ≤ s.window s.assoc.settings.pTolerance then some (-(timeDist p.onset t : Int)) else none
    | none => none) s.assoc.events

/-- R104: among the events without a P whose S follows `t` in the S-P range, the one with the latest S onset. -/
def State.adopter (s : State) (t : Nat) : Option Nat :=
  best (fun ev : Event =>
    match ev.p, ev.s with
    | none, some m => if s.inSpRange t m.onset then some (m.onset : Int) else none
    | _, _ => none) s.assoc.events

/-- R106: among the events with a P and no S whose P precedes `t` in the S-P range, the one with the latest P onset. -/
def State.sJoin (s : State) (t : Nat) : Option Nat :=
  best (fun ev : Event =>
    match ev.p, ev.s with
    | some m, none => if s.inSpRange m.onset t then some (m.onset : Int) else none
    | _, _ => none) s.assoc.events

/-- R107: among the events whose span with the X join window holds `t`, the one with the latest first onset. -/
def State.xJoin (s : State) (t : Nat) : Option Nat :=
  best (fun ev : Event =>
    if decide (ev.first ≤ t) && decide (t ≤ ev.last + s.window s.assoc.settings.xWindow) then some (ev.first : Int)
    else none) s.assoc.events

/-- The event to force out: the earliest first onset, a tie going to the earlier in the table (R109). -/
def oldestEvent (evs : List Event) : Option Nat := best (fun ev : Event => some (-(ev.first : Int))) evs

/-- The forced close of a full table: CLOSE with cause FULL, counted in events_forced (R109). -/
def State.forceRoom (s : State) : State :=
  if s.assoc.events.length < Config.eventSize then s
  else
    match oldestEvent s.assoc.events with
    | none => s
    | some i =>
      match s.assoc.events[i]? with
      | none => s
      | some ev =>
        ({ s with
            assoc := { s.assoc with events := s.assoc.events.eraseIdx i }
            counters := { s.counters with eventsForced := ctr s.counters.eventsForced 1 } }).handReport
          (ev.closeReport s.period .full)

/-- The event a P or S pick opens (R105, R106). -/
def openedEvent (number : Nat) (p : Pick) (isP : Bool) : Event :=
  let m : Member := ⟨p.number, p.onset.time⟩
  ⟨number, p.onset.time, if isP then some m else none, if isP then none else some m, 1, p.onset.time, !isP, false⟩

/-- An event is opened, after a forced close if the table is full; its OPEN report follows when the flag is set (R109). -/
def State.openEvent (s : State) (p : Pick) (isP : Bool) : State :=
  let s := s.forceRoom
  let ev := openedEvent s.assoc.nextEvent p isP
  let s := { s with assoc := { s.assoc with events := s.assoc.events ++ [ev], nextEvent := nextNumber s.assoc.nextEvent } }
  if s.assoc.settings.openReport then s.handReport ev.openReport else s

/-- The event at place `i` changed. -/
def State.changeEvent (s : State) (i : Nat) (f : Event → Event) : State :=
  { s with assoc := { s.assoc with events := s.assoc.events.modify i f } }

/-- The number of the event at place `i`. -/
def State.eventAt (s : State) (i : Nat) : Nat := ((s.assoc.events[i]?).map Event.number).getD 0

/-- A P pick: duplicate, else adopted, else it opens an event (R103 to R105). Answers the state, the event number and the
role. -/
def State.placeP (s : State) (p : Pick) : State × Nat × Role :=
  let t := p.onset.time
  match s.duplicateOf t with
  | some i => (s.changeEvent i (fun ev => ev.join t), s.eventAt i, .duplicate)
  | none =>
    match s.adopter t with
    | some i =>
      (s.changeEvent i (fun ev => { ev.join t with p := some ⟨p.number, t⟩, pAdopted := true }), s.eventAt i, .p)
    | none => (s.openEvent p true, s.assoc.nextEvent, .p)

/-- An S pick: it joins the event that qualifies, else it opens one (R106). -/
def State.placeS (s : State) (p : Pick) : State × Nat × Role :=
  let t := p.onset.time
  match s.sJoin t with
  | some i => (s.changeEvent i (fun ev => { ev.join t with s := some ⟨p.number, t⟩ }), s.eventAt i, .s)
  | none => (s.openEvent p false, s.assoc.nextEvent, .s)

/-- An X pick: it joins the event that qualifies, else it stays unassociated (R107). -/
def State.placeX (s : State) (p : Pick) : State × Nat × Role :=
  let t := p.onset.time
  match s.xJoin t with
  | some i => (s.changeEvent i (fun ev => ev.join t), s.eventAt i, .member)
  | none => (s, 0, .none)

/-- A pick placed by its reported phase (R102). -/
def State.placePick (s : State) (p : Pick) : State × Nat × Role :=
  match p.phase with
  | .p => s.placeP p
  | .s => s.placeS p
  | .x => s.placeX p

/-- The fence keeps this pick out: it carries GAP and was completed under one of the fence's causes (R114). -/
def isStale (fence : Option Fence) (p : Pick) : Bool :=
  match fence, p.gapCause with
  | some .time, some .time => true
  | some .gapStop, some .gap => true
  | some .gapStop, some .stop => true
  | _, _ => false

/-- The Recent Pick List with one more item, the oldest leaving when it holds 16 (R99). -/
def placeRecent (l : List RecentPick) (p : RecentPick) : List RecentPick :=
  (if Config.recentSize ≤ l.length then l.tail else l) ++ [p]

/-- The pick is passed to routing with its event number and role (R102). -/
def State.passOn (s : State) (p : Pick) (event : Nat) (role : Role) : State :=
  { s with outbox := s.outbox ++ [.toRoute p event role] }

/-- A completed pick is taken (R102, R114). -/
def State.takePick (s : State) (p : Pick) : State :=
  if isStale s.assoc.fence p then s.passOn p 0 .none
  else
    let (s, event, role) := s.placePick p
    ({ s with assoc := { s.assoc with
        recent := placeRecent s.assoc.recent ⟨p.number, p.kind, p.onset.time⟩ } }).passOn p event role

/-- The oldest completed pick is taken. -/
def State.associatePick (s : State) : State :=
  match s.assoc.picks with
  | [] => s
  | p :: ps => ({ s with assoc := { s.assoc with picks := ps } }).takePick p

/-- ASSOCIATE_PICK (R102). -/
def execAssociatePick (s : State) : Answer := .next (s.live State.associatePick)

/-! ## Closing (R110 to R115) -/

/-- An event's deadline, without wrap (R110). -/
def State.deadline (s : State) (ev : Event) : Nat := ev.last + s.window s.assoc.settings.closeWindow

/-- A backward jump of time: every event closes with cause TIME, the list is emptied, the gap note cleared, the fence set
(R113). DESIGN CHOICE: where a fence stands already, its causes are replaced and not added to (R114, log 37). -/
def State.abandonTime (s : State) (f : Fence) : State :=
  let s := s.closeWhere (fun _ => true) (fun _ => .time)
  { s with assoc := { s.assoc with recent := [], gapNote := none, fence := some f } }

/-- The gap is judged on the first triple after the note (R112). -/
def State.judgeGap (s : State) (t : Nat) : State :=
  match s.assoc.gapNote with
  | none => s
  | some note =>
    if (match note with | none => false | some n => decide (t ≤ n)) then s.abandonTime .gapStop
    else
      let s := s.closeWhere (fun ev => decide (s.deadline ev < t)) (fun ev =>
        match note with
        | none => .gap
        | some n => if n ≤ s.deadline ev then .gap else .quiet)
      { s with assoc := { s.assoc with gapNote := none } }

/-- The closing check of a triple (R110). -/
def State.closeQuiet (s : State) (t : Nat) : State := s.closeWhere (fun ev => decide (s.deadline ev < t)) (fun _ => .quiet)

/-- The Association Unit takes the next ring triple: the gap judgement, then the closing check (R110, R112). -/
def State.associationTriple (s : State) : State :=
  if s.assoc.feed.tripleReady s.ring then
    let t := (s.ring.read s.assoc.feed.taken).time
    let s := (({ s with assoc := { s.assoc with feed := s.assoc.feed.takeTriple } }).judgeGap t).closeQuiet t
    { s with assoc := { s.assoc with lastTime := some t } }
  else s

/-- ASSOCIATION_TRIPLE (R110). -/
def execAssociationTriple (s : State) : Answer := .next (s.live State.associationTriple)

/-- The Association Unit takes its oldest signal. -/
def State.takeAssocSignal (s : State) : State := { s with assoc := { s.assoc with feed := s.assoc.feed.takeSignal } }

/-- A GAP or STOP signal taken: the gap note is set unless one is held, and the fence cleared (R112, R114). -/
def State.associationGap (s : State) : State :=
  let take (s : State) : State :=
    { s.takeAssocSignal with assoc := { s.takeAssocSignal.assoc with
        gapNote := if s.assoc.gapNote.isSome then s.assoc.gapNote else some s.assoc.lastTime
        fence := none } }
  match s.assoc.feed.signalReady with
  | some .gap => take s
  | some .stop => take s
  | _ => s

/-- ASSOCIATION_GAP (R112). -/
def execAssociationGap (s : State) : Answer := .next (s.live State.associationGap)

/-- A TIME signal taken (R113); a fence against GAP and STOP becomes one against TIME alone (log 37). -/
def State.associationTime (s : State) : State :=
  match s.assoc.feed.signalReady with
  | some .time => s.takeAssocSignal.abandonTime .time
  | _ => s

/-- ASSOCIATION_TIME (R113). -/
def execAssociationTime (s : State) : Answer := .next (s.live State.associationTime)

/-- FLUSH taken: every event closes with cause FLUSH, the list is emptied, gap note and fence cleared (R115). -/
def State.associationFlush (s : State) : State :=
  match s.assoc.feed.signalReady with
  | some .flush =>
    let s := s.takeAssocSignal.closeWhere (fun _ => true) (fun _ => .flush)
    { s with assoc := { s.assoc with recent := [], gapNote := none, fence := none } }
  | _ => s

/-- ASSOCIATION_FLUSH (R115, R180). -/
def execAssociationFlush (s : State) : Answer := .next (s.live fun s => s.associationFlush.finishFlush)

/-! ## EVTS (R117) -/

/-- EVTS's fields: S-P min, S-P max, P duplicate tolerance, X join window, close window, open-report flag, event queue. -/
def evtsFields (m : InMsg) : List Nat := takeFields [2, 2, 1, 2, 2, 1, 1] m.body

/-- The association settings with the received fields stored (R117). -/
def EventSettings.store (p : EventSettings) (fs : List Nat) : EventSettings where
  spMin := setting fs 0 1 65535 p.spMin
  spMax := setting fs 1 0 65535 p.spMax
  pTolerance := setting fs 2 0 255 p.pTolerance
  xWindow := setting fs 3 0 65535 p.xWindow
  closeWindow := setting fs 4 256 65535 p.closeWindow
  openReport := flagSetting fs 5 p.openReport
  queue := match fs[6]? with
    | none => p.queue
    | some v => queueOf v

/-- The pair check: S-P max at least S-P min (R117). -/
def EventSettings.pairs (p : EventSettings) : EventSettings := { p with spMax := max p.spMax p.spMin }

/-- A received EVTS field was clamped (R117). -/
def evtsClamped (fs : List Nat) : Bool := outside fs 0 1 65535 || outside fs 4 256 65535

/-- EVTS is taken. -/
def takeEvts (m : InMsg) (s : State) : State :=
  let fs := evtsFields m
  let stored := s.assoc.settings.store fs
  ackSettings m (evtsClamped fs || stored.pairs != stored) fs.length
    { s with assoc := { s.assoc with settings := stored.pairs } }

/-- EVTS. -/
def execEvts (s : State) : Answer := .next (s.live fun s => s.decode (fun m => m.code == 0x0F) always takeEvts)

end Sys2Proof.Machine
end

