-- ==== Sys2Proof/Machine/Decoder.lean ====
section
/-! DEFINITION. The Command Decoder's own matters: unknown codes, RSTR, FLSH, STAT and CNTR; and the pin reset. -/

namespace Sys2Proof.Machine

/-- UNKNOWN_CODE: a code that is not inbound is refused UNKNOWN, complete or broken (R163, R177). -/
def execUnknownCode (s : State) : Answer :=
  .next (s.live fun s => s.decode (fun m => !inboundCodes.contains m.code) always
    fun m s => s.reply (.rfsd m.code .unknown))

/-! ## Reset (R174, R175, R179, R191) -/

/-- The part at the reset values of RSTR: the command queue, the straps, local time and the receive line stand; the character
being sent is finished; REDY carries COMMAND (R174, R175, R179, R192). -/
def State.commandReset (s : State) : State :=
  { State.reset with
    pending := s.pending
    rate1 := s.rate1
    rate0 := s.rate0
    localTime := s.localTime
    link := { LinkPort.reset with watch := s.link.watch, redy := some .command, current := s.link.current } }

/-- RSTR, complete, resets the part and makes no reply, so it needs no reply place; broken, it is refused SHORT (R162, R165,
R179). -/
def State.decodeRstr (s : State) : State :=
  match s.oldestMessage with
  | none => s
  | some m =>
    if m.code = 0x01 then
      if m.isBroken then (if s.replyRoom then s.popMessage.reply (.rfsd m.code .short) else s) else s.commandReset
    else s

/-- RSTR. -/
def execRstr (s : State) : Answer := .next (s.live State.decodeRstr)

/-- PIN_RESET: every block at its pin-reset values, the straps sampled, REDY with cause PIN (R156, R174, R191). -/
def execPinReset (rate1 rate0 : Bool) (s : State) : Answer :=
  .next { State.reset with pending := s.pending, rate1 := rate1, rate0 := rate0 }

/-- RESETN_LOW: every block stands at its pin-reset values, the line rests at mark, and nothing is taken; no REDY is placed until
the rise, and the straps are read again only then (R174, R175, R191). -/
def execResetnLow (s : State) : Answer :=
  .next { State.reset with
    pending := s.pending, rate1 := s.rate1, rate0 := s.rate0, resetLow := true
    link := { LinkPort.reset with redy := none } }

/-! ## FLSH (R17, R180) -/

/-- FLSH is taken whole: the Sample Port notes that its next triple begins a run, and the signal with cause FLUSH goes to every
block after the History Ring; the ACKN waits until each has taken it (R17, R180, log 10). -/
def takeFlsh (_ : InMsg) (s : State) : State :=
  { s.raiseSignal .flush with flushing := true, port := { s.port with flushNote := true } }

/-- FLSH. -/
def execFlsh (s : State) : Answer := .next (s.live fun s => s.decode (fun m => m.code == 0x02) always (action 0 takeFlsh))

/-! ## STAT and CNTR (R181, R182) -/

/-- The items of an STRP as they stand (R181). -/
def State.status (s : State) : StatusReport where
  input := s.port.input
  lastTime := (s.ring.held.head?.map Triple.time).getD 0
  stateV := s.detV.state
  ratioV := s.detV.ratio
  stateH := s.detH.state
  ratioH := s.detH.ratio
  pending := s.onset.table.length
  events := s.assoc.events.length
  records := s.queues.map fun q => q.records.length
  credits := s.queues.map Queue.credits
  snips := s.snips.slots.map SnipSlot.state
  sigs := s.bank.slots.map SigSlot.state

/-- STAT is taken whole: it composes an STRP and changes no state (R181). -/
def takeStat (_ : InMsg) (s : State) : State := s.reply (.strp s.status)

/-- Both detectors stand between two treatments (R181); a broken STAT is refused and asks nothing of them. -/
def statOwners (m : InMsg) (s : State) : Bool := m.isBroken || s.detV.due.isNone && s.detH.due.isNone

/-- STAT. -/
def execStat (s : State) : Answer := .next (s.live fun s => s.decode (fun m => m.code == 0x03) statOwners (action 0 takeStat))

/-- CNTR is taken whole: a CNTP with the counters as they stand; they are cleared afterwards if asked; every loss note is cleared
(R126, R182). -/
def takeCntr (m : InMsg) (s : State) : State :=
  let clear := decide (m.at 0 ≠ 0)
  ({ s with
      counters := if clear then .zero else s.counters
      queues := s.queues.map fun q : Queue => { q with lossNote := false } }).reply (.cntp clear s.counters)

/-- CNTR. -/
def execCntr (s : State) : Answer := .next (s.live fun s => s.decode (fun m => m.code == 0x04) always (action 1 takeCntr))

end Sys2Proof.Machine
end

