-- ==== Sys2Proof/Machine/Detectors.lean ====
section
/-! DEFINITION. Chapter 2: the two detectors and DETS. A triple whose tests call for a confirmation, a forced release, or the
end of warm-up or recovery is treated in two commands: DETECTOR_TRIPLE, then the command of that name (log 4). -/

namespace Sys2Proof.Machine

/-- One update of a level toward the energy, with the floor toward minus infinity (R26). -/
def levelStep (shift old e : Nat) : Nat := ((old : Int) + ((e : Int) - old) / 2 ^ shift).toNat

/-- The level ratio (R27). -/
def levelRatio (short long lmin : Nat) : Nat := min Config.x16Top (16 * short / max long lmin)

/-- Both levels updated and the ratio computed (R26, R27). -/
def Detector.update (x : Detector) (e : Nat) : Detector :=
  let short := levelStep x.settings.ks x.short e
  let long := levelStep x.settings.kl x.long e
  { x with short := short, long := long, ratio := levelRatio short long x.settings.lmin }

/-- The short level updated, the long level frozen, and the ratio computed (R26, R27, R32). -/
def Detector.updateShort (x : Detector) (e : Nat) : Detector :=
  let short := levelStep x.settings.ks x.short e
  { x with short := short, ratio := levelRatio short x.long x.settings.lmin }

/-- Entry into WARMUP: the count and the current ratio are 0, the levels stand (R29). -/
def Detector.warm (x : Detector) : Detector :=
  { x with state := .warmup, warmupCount := 0, recoveryCount := 0, ratio := 0, episode := none, due := none }

/-- RECOVERY with its count at 0, or QUIET at once when the recovery length is 0; the episode record is closed (R33, R35). -/
def Detector.recover (x : Detector) : Detector :=
  { x with state := if x.settings.recovery = 0 then .quiet else .recovery, recoveryCount := 0, episode := none }

/-- What the end of an episode asks of the Onset Unit: nothing when it is confirmed, else a cancel below the min duration and a
confirm at or above it (R33, R41, R44). -/
def Episode.closing (ep : Episode) (minDuration : Nat) : List DetRequest :=
  if ep.confirmed then [] else if ep.length < minDuration then [.cancel ep.number] else [.confirm ep.number]

/-- The trigger, on the levels as updated (R30, R31). -/
def Detector.trigger (x : Detector) (at_ : Ref) : Detector :=
  let confirmed := decide (x.settings.minDuration ≤ 1)
  { x with
    state := .triggered
    episode := some ⟨x.nextEpisode, at_, x.long, x.short, 1, 0, confirmed⟩
    nextEpisode := nextNumber x.nextEpisode
    requests := x.requests ++ [.createPrimary x.nextEpisode at_ x.long confirmed] }

/-- The secondary test (R36). -/
def Detector.secondaryTest (x : Detector) (ep : Episode) (at_ : Ref) : Detector :=
  if decide (ep.sref * x.settings.k2 ≤ 16 * x.short) && decide (x.settings.separation ≤ ep.since) then
    { x with
      episode := some { ep with sref := x.short, since := 0 }
      requests := x.requests ++ [.createSecondary ep.number at_ ep.sref ep.confirmed] }
  else { x with episode := some ep }

/-- A later triple in TRIGGERED: release, forced release due, confirmation due, or the secondary test (R32). -/
def Detector.triggeredTriple (x : Detector) (ep : Episode) (at_ : Ref) (e : Nat) : Detector :=
  let ep := { ep with length := ep.length + 1, since := ep.since + 1 }
  let x := x.updateShort e
  if x.ratio < x.settings.offLevel then
    { x with requests := x.requests ++ ep.closing x.settings.minDuration }.recover
  else if x.settings.maxDuration ≤ ep.length then { x with episode := some ep, due := some .forcedRelease }
  else if !ep.confirmed && decide (x.settings.minDuration ≤ ep.length) then
    { x with episode := some ep, due := some (.confirmation at_) }
  else x.secondaryTest ep at_

/-- A triple in WARMUP (R29). -/
def Detector.warmupTriple (x : Detector) (e : Nat) : Detector :=
  let x := if x.warmupCount = 0 then { x with short := e, long := e, ratio := levelRatio e e x.settings.lmin } else x.update e
  { x with
    warmupCount := x.warmupCount + 1
    due := if 2 ^ x.settings.kl ≤ x.warmupCount + 1 then some .warmupEnd else none }

/-- A triple in RECOVERY (R37). -/
def Detector.recoveryTriple (x : Detector) (e : Nat) : Detector :=
  let x := x.update e
  { x with
    recoveryCount := x.recoveryCount + 1
    due := if x.settings.recovery ≤ x.recoveryCount + 1 then some .recoveryEnd else none }

/-- A triple in QUIET (R30). -/
def Detector.quietTriple (x : Detector) (at_ : Ref) (e : Nat) : Detector :=
  let x := x.update e
  if x.settings.onLevel ≤ x.ratio then x.trigger at_ else x

/-- A detector's treatment of one triple, by its state (section 2.2). In TRIGGERED an episode is always open. -/
def Detector.treat (x : Detector) (at_ : Ref) (e : Nat) : Detector :=
  match x.state with
  | .off => x
  | .warmup => x.warmupTriple e
  | .quiet => x.quietTriple at_ e
  | .triggered =>
    match x.episode with
    | some ep => x.triggeredTriple ep at_ e
    | none => x
  | .recovery => x.recoveryTriple e

/-- The detector takes the next ring triple, when it stands between two treatments (R26). -/
def State.detectorTriple (s : State) (d : Det) : State :=
  let x := s.det d
  if x.feed.tripleReady s.ring && x.due.isNone then
    let t := s.ring.read x.feed.taken
    s.setDet d ({ x with feed := x.feed.takeTriple }.treat ⟨x.feed.taken, t.time⟩ (t.energy d))
  else s

/-- DETECTOR_TRIPLE (R25 to R37). -/
def execDetectorTriple (d : Det) (s : State) : Answer := .next (s.live fun s => s.detectorTriple d)

/-- The episode is confirmed, its entries are confirmed, and the triple's secondary test follows (R32, R34). -/
def Detector.confirmEpisode (x : Detector) : Detector :=
  match x.due, x.episode with
  | some (.confirmation at_), some ep =>
    { x with due := none, requests := x.requests ++ [DetRequest.confirm ep.number] }.secondaryTest { ep with confirmed := true } at_
  | _, _ => x

/-- CONFIRMATION (R34). -/
def execConfirmation (d : Det) (s : State) : Answer := .next (s.live fun s => s.setDet d (s.det d).confirmEpisode)

/-- The forced release: entries marked LONG, L set to S, the episode closed (R35). -/
def Detector.forceRelease (x : Detector) : Detector :=
  match x.due, x.episode with
  | some .forcedRelease, some ep =>
    { x with due := none, long := x.short, requests := x.requests ++ [DetRequest.markLong ep.number] }.recover
  | _, _ => x

/-- FORCED_RELEASE (R35). -/
def execForcedRelease (d : Det) (s : State) : Answer := .next (s.live fun s => s.setDet d (s.det d).forceRelease)

/-- The end of the warm-up: QUIET (R29). -/
def Detector.endWarmup (x : Detector) : Detector :=
  if x.due = some .warmupEnd then { x with due := none, state := .quiet } else x

/-- WARMUP_END (R29). -/
def execWarmupEnd (d : Det) (s : State) : Answer := .next (s.live fun s => s.setDet d (s.det d).endWarmup)

/-- The end of the recovery: QUIET (R37). -/
def Detector.endRecovery (x : Detector) : Detector :=
  if x.due = some .recoveryEnd then { x with due := none, state := .quiet } else x

/-- RECOVERY_END (R37). -/
def execRecoveryEnd (d : Det) (s : State) : Answer := .next (s.live fun s => s.setDet d (s.det d).endRecovery)

/-- A signal taken: a detector that is not OFF enters WARMUP, its episode closed without requests (R28, R47, R48). -/
def Detector.interrupt (x : Detector) : Detector :=
  if x.state = .off then { x with feed := x.feed.takeSignal } else { x with feed := x.feed.takeSignal }.warm

/-- The detector takes a signal of a cause it may take now, between two treatments. -/
def State.detectorSignal (s : State) (d : Det) (want : Cause → Bool) : State :=
  let x := s.det d
  match x.feed.signalReady with
  | none => s
  | some c => if want c && x.due.isNone then s.setDet d x.interrupt else s

/-- DETECTOR_DISCONTINUITY: GAP, TIME or STOP (R47). -/
def execDetectorDiscontinuity (d : Det) (s : State) : Answer :=
  .next (s.live fun s => s.detectorSignal d (fun c => c != .flush))

/-- DETECTOR_FLUSH (R48); the last block to take the signal lets the decoder place FLSH's ACKN (R180). -/
def execDetectorFlush (d : Det) (s : State) : Answer :=
  .next (s.live fun s => (s.detectorSignal d (fun c => c == .flush)).finishFlush)

/-! ## DETS (R39 to R46) -/

/-- DETS's fields: selector, enable, ks, kl, Lmin, on, off, min, max, k2, separation, recovery (section 9.3). -/
def detsFields (m : InMsg) : List Nat := takeFields [1, 1, 1, 1, 4, 2, 2, 1, 2, 1, 2, 2] m.body

/-- The message's selector names the detector: 0 V, 1 H, any other both (R39). -/
def detsSelects (fs : List Nat) (d : Det) : Bool :=
  match fs[0]? with
  | none => false
  | some v => decide (2 ≤ v) || v == (match d with | .v => 0 | .h => 1)

/-- A detector's settings with the received fields stored (R40). -/
def DetSettings.store (p : DetSettings) (fs : List Nat) : DetSettings where
  enabled := flagSetting fs 1 p.enabled
  ks := setting fs 2 1 8 p.ks
  kl := setting fs 3 4 14 p.kl
  lmin := setting fs 4 1 4294967295 p.lmin
  onLevel := setting fs 5 20 4095 p.onLevel
  offLevel := setting fs 6 16 4094 p.offLevel
  minDuration := setting fs 7 1 255 p.minDuration
  maxDuration := setting fs 8 1 65535 p.maxDuration
  k2 := setting fs 9 24 255 p.k2
  separation := setting fs 10 1 4095 p.separation
  recovery := setting fs 11 0 4095 p.recovery

/-- The pair checks: kl at least ks + 3, the off level below the on level (R40). -/
def DetSettings.pairs (p : DetSettings) : DetSettings :=
  { p with
    kl := max p.kl (p.ks + 3)
    offLevel := if p.onLevel ≤ p.offLevel then p.onLevel - 1 else p.offLevel }

/-- A received DETS field was clamped (R39, R40). -/
def detsClamped (fs : List Nat) : Bool :=
  outside fs 0 0 2 || outside fs 2 1 8 || outside fs 3 4 14 || outside fs 4 1 4294967295 || outside fs 5 20 4095 ||
    outside fs 6 16 4094 || outside fs 7 1 255 || outside fs 8 1 65535 || outside fs 9 24 255 || outside fs 10 1 4095 ||
    outside fs 11 0 4095

/-- An episode in progress is ended as a disable ends it (R41, R44). -/
def Detector.endEpisode (x : Detector) : Detector :=
  match x.state, x.episode with
  | .triggered, some ep => { x with requests := x.requests ++ ep.closing x.settings.minDuration, episode := none }
  | _, _ => x

/-- Disable (R44): OFF, with the current ratio 0. -/
def Detector.disable (x : Detector) : Detector :=
  if x.state = .off then x
  else { x.endEpisode with state := .off, ratio := 0, warmupCount := 0, recoveryCount := 0, episode := none }

/-- The state effects of a DETS, after its fields have been stored (R41, R44 to R46). A kl that the adjustment of R40 takes back to the
value held before is no change: the model's reading (log 34). -/
def Detector.detsEffect (before x : Detector) (enable : Option Nat) : Detector :=
  match enable with
  | some 0 => x.disable
  | en =>
    if x.state = .off then (if en.isSome then x.warm else x)
    else if before.settings.ks ≠ x.settings.ks || before.settings.kl ≠ x.settings.kl then x.endEpisode.warm
    else x

/-- One detector takes DETS (R39). -/
def Detector.takeDets (x : Detector) (fs : List Nat) : Detector :=
  x.detsEffect { x with settings := (x.settings.store fs).pairs } fs[1]?

/-- The pair checks adjusted this detector (R40). -/
def Detector.detsAdjusted (x : Detector) (fs : List Nat) : Bool :=
  (x.settings.store fs).pairs != x.settings.store fs

/-- DETS on every selected detector; nothing applies when the selector did not arrive (R39). -/
def takeDets (m : InMsg) (s : State) : State :=
  let fs := detsFields m
  let one (d : Det) (x : Detector) : Detector := if detsSelects fs d then x.takeDets fs else x
  let adjusted (d : Det) : Bool := detsSelects fs d && (s.det d).detsAdjusted fs
  ackSettings m (detsClamped fs || adjusted .v || adjusted .h) fs.length
    { s with detV := one .v s.detV, detH := one .h s.detH }

/-- The selected detectors stand between two triples (R39). -/
def detsOwners (m : InMsg) (s : State) : Bool :=
  let fs := detsFields m
  (!detsSelects fs .v || s.detV.due.isNone) && (!detsSelects fs .h || s.detH.due.isNone)

/-- DETS. -/
def execDets (s : State) : Answer := .next (s.live fun s => s.decode (fun m => m.code == 0x0C) detsOwners takeDets)

end Sys2Proof.Machine
end

