-- ==== Sys2Proof/Machine/Link.lean ====
section
/-! DEFINITION. Chapter 8, the line: characters received, framing errors, line breaks, flow control in both directions, and the
character boundaries of the outbound line. -/

namespace Sys2Proof.Machine

/-- The character rate the straps choose, in baud (R156). -/
def lineRate (rate1 rate0 : Bool) : Nat :=
  match rate1, rate0 with
  | false, false => 115200
  | false, true => 460800
  | true, false => 921600
  | true, true => 1843200

/-! ## The inbound message in progress (R158 to R160) -/

/-- The message in progress, which is the newest in the buffer. -/
def LinkPort.inProgress (l : LinkPort) : Option InMsg :=
  match l.inbox.getLast? with
  | none => none
  | some m => if m.status = .inProgress then some m else none

/-- The message in progress changed. -/
def LinkPort.setLast (l : LinkPort) (m : InMsg) : LinkPort := { l with inbox := l.inbox.dropLast ++ [m] }

/-- A message in progress is broken and counted; with none, nothing changes (R159). -/
def State.breakMessage (s : State) : State :=
  match s.link.inProgress with
  | none => s
  | some m =>
    { s with
      link := s.link.setLast { m with status := .broken }
      counters := { s.counters with linkBrokenMessages := ctr s.counters.linkBrokenMessages 1 } }

/-- A framing error: the character is discarded and counted, and breaks the message in progress (R157). -/
def State.framingError (s : State) : State :=
  { s with counters := { s.counters with linkFramingErrors := ctr s.counters.linkFramingErrors 1 } }.breakMessage

/-- A character discarded for a full buffer (R160). -/
def State.linkOverrun (s : State) : State :=
  { s with counters := { s.counters with linkOverrun := ctr s.counters.linkOverrun 1 } }

/-- The buffer is full (R160). -/
def LinkPort.full (l : LinkPort) : Bool := decide (Config.inboxSize ≤ l.fill)

/-- An opener other than HOLD and GO: it breaks a message in progress, and begins the next unless the buffer is full (R158 to
R160). -/
def State.opener (s : State) (code : Byte) : State :=
  let s := s.breakMessage
  if s.link.full then s.linkOverrun
  else { s with link := { s.link with inbox := s.link.inbox ++ [InMsg.mk code none [] .inProgress] }.afterStore }

/-- The message in progress with one more data character: its length, or a body byte (R158). -/
def InMsg.take (m : InMsg) (b : Byte) : InMsg :=
  match m.length with
  | none =>
    { m with
      length := some b.toNat
      status := if b.toNat = 0 then .complete else if b.toNat ≤ Config.maxBody then .inProgress else .broken }
  | some n =>
    { m with
      body := m.body ++ [b]
      status := if n ≤ m.body.length + 1 then .complete else .inProgress }

/-- One more broken message, when this one is (R159). -/
def Counters.broken (c : Counters) (m : InMsg) : Counters :=
  if m.status = .broken then { c with linkBrokenMessages := ctr c.linkBrokenMessages 1 } else c

/-- A data character: a stray between messages, else stored, or lost to a full buffer with the message broken at it (R158 to
R160). -/
def State.dataCharacter (s : State) (b : Byte) : State :=
  match s.link.inProgress with
  | none => s
  | some m =>
    if s.link.full then s.linkOverrun.breakMessage
    else { s with link := (s.link.setLast (m.take b)).afterStore, counters := s.counters.broken (m.take b) }

/-! ## Peer HOLD and GO (R167) -/

/-- A HOLD from the station controller. -/
def LinkPort.hold (l : LinkPort) : LinkPort := { l with peerHold := true }

/-- A GO from the station controller: the message in progress goes on. -/
def LinkPort.release (l : LinkPort) : LinkPort := { l with peerHold := false }.resume

/-- A character without a framing error (R158). -/
def State.takeCharacter (s : State) (mark : Bool) (b : Byte) : State :=
  if mark then
    if b = 0xFE then { s with link := s.link.hold }
    else if b = 0xFF then { s with link := s.link.release }
    else s.opener b
  else s.dataCharacter b

/-- A character arrives while the receiver looks for a start bit. One of nine zero bits with its stop bit at space is not judged
yet (R157, log 12). -/
def State.linkCharacter (s : State) (mark : Bool) (b : Byte) (stopAtMark : Bool) : State :=
  if s.link.watch ≠ .looking then s
  else if stopAtMark then s.takeCharacter mark b
  else if !mark && b == 0 then { s with link := { s.link with watch := .undecided } }
  else s.framingError

/-- LINK_CHARACTER (R156 to R160). -/
def execLinkCharacter (mark : Bool) (byte : Byte) (stopAtMark : Bool) (s : State) : Answer :=
  .next (s.live fun s => s.linkCharacter mark byte stopAtMark)

/-- A line break: it breaks the message in progress, is no framing error, and the receiver waits for the line at mark (R157). A
line already waiting for mark has no start bit for a break to begin with. -/
def State.lineBreak (s : State) : State :=
  if s.link.watch = .awaitMark then s
  else { s.breakMessage with link := { s.breakMessage.link with watch := .awaitMark } }

/-- LINE_BREAK (R157). -/
def execLineBreak (s : State) : Answer := .next (s.live State.lineBreak)

/-- The line returns to mark: the receiver looks again; a character still undecided was a framing error (R157, log 12). -/
def State.returnToMark (s : State) : State :=
  let looking (s : State) : State := { s with link := { s.link with watch := .looking } }
  match s.link.watch with
  | .looking => s
  | .undecided => looking s.framingError
  | .awaitMark => looking s

/-- LINE_RETURNS_TO_MARK (R157, R174). -/
def execLineReturnsToMark (s : State) : Answer := .next (s.live State.returnToMark)

/-- PEER_HOLD (R167): the HOLD character taken, while the receiver takes characters. -/
def execPeerHold (s : State) : Answer :=
  .next (s.live fun s => if s.link.watch = .looking then { s with link := s.link.hold } else s)

/-- PEER_GO (R167): the GO character taken. -/
def execPeerGo (s : State) : Answer :=
  .next (s.live fun s => if s.link.watch = .looking then { s with link := s.link.release } else s)

/-! ## The outbound line (R161, R173) -/

/-- The character being sent ends. A flow character that waits goes next (OWN_HOLD, OWN_GO); else the next character of the
message, as the peer HOLD state allows (R173, log 14). -/
def LinkPort.boundary (l : LinkPort) : LinkPort := { l with current := none }.resume

/-- CHARACTER_BOUNDARY (R173). -/
def execCharacterBoundary (s : State) : Answer :=
  .next (s.live fun s => if s.link.current.isSome then { s with link := s.link.boundary } else s)

/-- The character a flow code is sent as (section 9.2). -/
def Flow.char : Flow → LinkChar
  | .hold => ⟨true, 0xFE⟩
  | .go => ⟨true, 0xFF⟩

/-- The flow character asked for is sent when it waits and no character is being sent, whatever the peer HOLD state (R173). -/
def LinkPort.sendFlow (l : LinkPort) (f : Flow) : LinkPort :=
  if l.current.isNone && l.flow == some f then { l with current := some f.char, flow := none } else l

/-- OWN_HOLD (R161). -/
def execOwnHold (s : State) : Answer := .next (s.live fun s => { s with link := s.link.sendFlow .hold })

/-- OWN_GO (R161). -/
def execOwnGo (s : State) : Answer := .next (s.live fun s => { s with link := s.link.sendFlow .go })

end Sys2Proof.Machine
end

