-- ==== Sys2Proof/Machine/OnsetUnit.lean ====
section
/-! DEFINITION. Chapter 3: the Pending Pick Table, the onset search, measurement, completion, coincidence, and the messages ONST
and PHAS. -/

namespace Sys2Proof.Machine

/-! ## Onset search (R54 to R57) -/

/-- The threshold of an entry (R54, R58). -/
def threshold (reference factor : Nat) : Nat := reference * factor / 16

/-- The scan toward older triples: the candidate so far, the quiet run, and whether it stopped at a bound (R55, R56). A triple
marked FILLED counts as below T (R54). -/
def scan (r : Ring) (d : Det) (T Q bound : Nat) : Nat → Nat → Option Ref → Nat → Option Ref × Bool
  | 0, _, cand, _ => (cand, true)
  | n + 1, idx, cand, quiet =>
    let t := r.read idx
    let hit := !t.filled && decide (T ≤ t.energy d)
    let cand := if hit then some ⟨idx, t.time⟩ else cand
    let quiet := if hit then 0 else quiet + 1
    if !hit && decide (Q ≤ quiet) then (cand, false)
    else if t.disc || decide (idx ≤ bound) then (cand, true)
    else scan r d T Q bound n (idx - 1) cand quiet

/-- The onset and the flag EDGE of a detector entry; `floor` is the oldest triple number that the last onset allows (R55 to
R57). A search from a trigger that is no longer held answers the trigger with EDGE (log 33). -/
def onsetSearch (r : Ring) (d : Det) (T : Nat) (p : OnsetSettings) (floor : Nat) (trigger : Ref) : Ref × Bool :=
  let bound := max (trigger.idx - p.lookBack) (max r.oldest floor)
  match scan r d T p.runLength bound (p.lookBack + 1) trigger.idx none 0 with
  | (none, _) => (trigger, true)
  | (some c, edge) => (if c.idx = trigger.idx then trigger else c, edge)

/-! ## Measurement (R59 to R62) -/

/-- The detector whose energy an entry measures: Detector V's for a SIGNATURE entry (R60). -/
def Source.energyDet : Source → Det
  | .detector d => d
  | .slot _ => .v

/-- The component and amplitude a peak records (R60). -/
def peakOf (d : Det) (t : Triple) : Component × Nat :=
  match d with
  | .v => (.z, t.cond.z.natAbs)
  | .h => if t.cond.e.natAbs ≤ t.cond.n.natAbs then (.n, t.cond.n.natAbs) else (.e, t.cond.e.natAbs)

/-- The peak after a measured triple: a strictly greater energy, or any when none is held (R60). -/
def Entry.nextPeak (e : Entry) (t : Triple) : Option Peak :=
  let d := e.source.energyDet
  let new : Peak := ⟨t.energy d, e.measured, (peakOf d t).1, (peakOf d t).2⟩
  match e.peak with
  | none => some new
  | some p => if p.energy < t.energy d then some new else some p

/-- The polarity work state after a measured triple (R62). -/
def Entry.nextWork (e : Entry) (z : Int) : PolarityWork :=
  if e.measured = 0 then ⟨signOf z, z, none⟩
  else
    match e.work.extremum with
    | some _ => e.work
    | none =>
      if z.natAbs ≤ e.work.previous.natAbs then { e.work with extremum := some (e.work.previous, e.measured - 1) }
      else { e.work with previous := z }

/-- An entry measures a triple (R59 to R62). -/
def Entry.measure (e : Entry) (t : Triple) : Entry :=
  { e with
    measured := e.measured + 1
    peak := e.nextPeak t
    vSum := e.vSum + t.cond.z.natAbs ^ 2
    hSum := e.hSum + (t.cond.n.natAbs ^ 2 + t.cond.e.natAbs ^ 2)
    work := e.nextWork t.cond.z
    clipped := e.clipped || t.clip.z || t.clip.n || t.clip.e
    filled := e.filled || t.filled }

/-- The number of the triple an entry measures next (R59). -/
def Entry.nextIdx (e : Entry) : Nat := e.onset.idx + e.measured

/-- An entry may measure a triple: its window is not full, and a DISC triple only as its onset (R59). -/
def Entry.accepts (e : Entry) (t : Triple) : Bool := decide (e.measured < e.measureLen) && (e.measured == 0 || !t.disc)

/-- The measurement at creation of the window's triples below number `limit` (R59, R77). -/
def measureHeld (r : Ring) (limit : Nat) : Nat → Entry → Entry
  | 0, e => e
  | n + 1, e =>
    let t := r.read e.nextIdx
    if decide (e.nextIdx < limit) && e.accepts t then measureHeld r limit n (e.measure t) else e

/-! ## Completion (R66 to R70) -/

/-- The entry's window is full and it is confirmed (R66). -/
def Entry.isDone (e : Entry) : Bool := decide (e.measured = e.measureLen) && e.confirmed

/-- The signal-to-noise measure (R67). -/
def snrOf (peak reference lmin : Nat) : Nat := min Config.x16Top (16 * peak / max reference lmin)

/-- The grade (R67). -/
def gradeOf (p : PhaseSettings) (snr : Nat) : Nat :=
  if p.g3 ≤ snr then 3 else if p.g2 ≤ snr then 2 else if p.g1 ≤ snr then 1 else 0

/-- The polarization measure (R68). -/
def hvOf (h v : Nat) : Nat := min Config.x16Top (16 * h / max v 1)

/-- The classification (R68). -/
def classify (p : PhaseSettings) (hv : Nat) : Phase := if hv ≤ p.pLimit then .p else if p.sLimit ≤ hv then .s else .x

/-- The first motion of a pick reported P (R69). -/
def polarityOf (e : Entry) : Polarity :=
  let y := match e.work.extremum with
    | some (v, _) => v
    | none => e.work.previous
  if y = 0 || decide (y.natAbs ^ 2 < e.threshold) || decide (signOf y ≠ e.work.onsetSign) then .unclear
  else if 0 < y then .up else .down

/-- An entry's results as pick number `n`, completed under `gap` if by a discontinuity (R66 to R70). -/
def Entry.complete (e : Entry) (p : PhaseSettings) (lmin n : Nat) (gap : Option Cause) : Pick :=
  let peak : Peak := e.peak.getD ⟨0, 0, .z, 0⟩
  let snr := snrOf peak.energy e.reference lmin
  let hv := hvOf e.hSum e.vSum
  let cls := classify p hv
  let phase := e.label.getD cls
  { number := n
    kind := e.kind
    source := e.source
    phase := phase
    classification := cls
    onset := e.onset
    triggerTime := e.trigger.time
    grade := gradeOf p snr
    polarity := if phase = .p then polarityOf e else .unclear
    snr16 := snr
    hv16 := hv
    peakAmplitude := peak.amplitude
    peakComponent := peak.component
    peakOffset := peak.offset
    measured := e.measured
    edge := e.edge
    clipped := e.clipped
    filled := e.filled
    gapCause := gap
    long := e.long
    inverted := e.inverted
    disagree := e.label.isSome && decide (phase ≠ cls)
    confirmedBy := e.confirmedBy
    coincident := e.coincident
    score := e.score }

/-- Lmin of the creating detector, and of Detector V for a SIGNATURE entry, as it stands (R67). -/
def State.lminOf (s : State) (e : Entry) : Nat := (s.det e.source.energyDet).settings.lmin

/-- An entry completes: it becomes the pick with the next pick number, on its way to the Association Unit (R66, R70). -/
def State.completeOne (s : State) (gap : Option Cause) (e : Entry) : State :=
  { s with
    onset := { s.onset with nextPick := nextNumber s.onset.nextPick }
    assoc := { s.assoc with picks := s.assoc.picks ++ [e.complete s.onset.phas (s.lminOf e) s.onset.nextPick gap] } }

/-- Several entries complete in table order. -/
def State.completeAll (s : State) (gap : Option Cause) (es : List Entry) : State := es.foldl (fun s e => s.completeOne gap e) s

/-- The table after a change that touches some of its entries: those touched are tested for completion, and those that complete
leave (first the entries that stay, then those that complete, both in table order). -/
def sweep (touch : Entry → Option Entry) : List Entry → List Entry × List Entry
  | [] => ([], [])
  | e :: es =>
    let (stay, done) := sweep touch es
    match touch e with
    | none => (e :: stay, done)
    | some e' => if e'.isDone then (stay, e' :: done) else (e' :: stay, done)

/-- The table is swept and the completed entries become picks. -/
def State.sweepTable (s : State) (touch : Entry → Option Entry) : State :=
  let (stay, done) := sweep touch s.onset.table
  ({ s with onset := { s.onset with table := stay } }).completeAll none done

/-! ## Coincidence (R71, R72) -/

/-- Two onsets coincide: their times differ by no more than c periods (R1, R71). -/
def State.coincide (s : State) (a b : Nat) : Bool := decide (timeDist a b ≤ s.onset.onst.tolerance * s.period)

/-- The place of the pending entry of the kind asked for whose onset coincides with `t` and is nearest, a tie going to the
earlier in the table. -/
def State.coincidentEntry (s : State) (isKind : PickKind → Bool) (t : Nat) : Option Nat :=
  best (fun e : Entry => if isKind e.kind && s.coincide e.onset.time t then some (-(timeDist e.onset.time t : Int)) else none)
    s.onset.table

/-- The number of the recent pick of the kind asked for whose onset coincides with `t` and is nearest, a tie going to the one
placed later (R71, R72, R99). -/
def State.coincidentPick (s : State) (isKind : PickKind → Bool) (t : Nat) : Option Nat :=
  let newest := s.assoc.recent.reverse
  (best (fun p : RecentPick => if isKind p.kind && s.coincide p.onset t then some (-(timeDist p.onset t : Int)) else none)
    newest).bind (fun i => (newest[i]?).map RecentPick.number)

/-- A PRIMARY or SECONDARY kind. -/
def PickKind.ofDetector : PickKind → Bool
  | .signature => false
  | _ => true

/-- A SIGNATURE kind. -/
def PickKind.ofSignature : PickKind → Bool
  | .signature => true
  | _ => false

/-! ## Creation (R52, R53, R77) -/

/-- The last-onset record of a detector (R57). -/
def OnsetUnit.last (o : OnsetUnit) : Det → Option LastOnset
  | .v => o.lastV
  | .h => o.lastH

/-- The onset just found becomes the detector's last onset (R57). -/
def OnsetUnit.setLast (o : OnsetUnit) (d : Det) (l : LastOnset) : OnsetUnit :=
  match d with
  | .v => { o with lastV := some l }
  | .h => { o with lastH := some l }

/-- The boundary's cause when a request's trigger triple was written no later than the boundary triple (R77). -/
def OnsetUnit.lateCause (o : OnsetUnit) (trigger : Ref) : Option Cause :=
  match o.boundary with
  | none => none
  | some b => if trigger.idx < b.count then some b.cause else none

/-- How many triples a creation may measure: those written, or for a late request those up to the boundary (R59, R77). -/
def State.measureLimit (s : State) (late : Bool) : Nat :=
  if late then (match s.onset.boundary with | none => s.ring.written | some b => b.count) else s.ring.written

/-- A new entry before any measurement (R52). -/
def newEntry (kind : PickKind) (source : Source) (episode : Option EpisodeRef) (trigger onset : Ref)
    (reference T measureLen : Nat) (confirmed edge : Bool) : Entry where
  kind := kind
  source := source
  episode := episode
  trigger := trigger
  onset := onset
  reference := reference
  threshold := T
  measureLen := measureLen
  measured := 0
  peak := none
  vSum := 0
  hSum := 0
  work := ⟨0, 0, none⟩
  clipped := false
  filled := false
  confirmed := confirmed
  edge := edge
  long := false
  inverted := false
  confirmedBy := none
  score := none
  coincident := none
  label := none

/-- The detector entry a request makes, searched and measured (R52 to R57). -/
def State.detectorEntry (s : State) (d : Det) (kind : PickKind) (episode : Nat) (trigger : Ref) (reference : Nat)
    (confirmed late : Bool) : Entry :=
  let o := s.onset
  let T := threshold reference o.onst.factor
  let floor := match kind, o.last d with
    | .secondary, some l => if l.episode = episode then l.onset.idx + 1 else 0
    | _, _ => 0
  let (onset, edge) := onsetSearch s.ring d T o.onst floor trigger
  measureHeld s.ring (s.measureLimit late) o.onst.measureLen
    (newEntry kind (.detector d) (some ⟨d, episode⟩) trigger onset reference T o.onst.measureLen confirmed edge)

/-- The detector-first test: the new entry absorbs the nearest coinciding pending SIGNATURE entry, or else names the nearest
coinciding SIGNATURE pick (R72). The table returned is without the absorbed entry. -/
def State.detectorFirst (s : State) (e : Entry) : State × Entry :=
  match s.coincidentEntry PickKind.ofSignature e.onset.time with
  | some i =>
    match s.onset.table[i]? with
    | none => (s, e)
    | some g =>
      ({ s with
          onset := { s.onset with table := s.onset.table.eraseIdx i }
          counters := { s.counters with picksMerged := ctr s.counters.picksMerged 1 } },
        { e with
          confirmedBy := match g.source with
            | .slot n => some n
            | .detector _ => e.confirmedBy
          score := g.score
          inverted := e.inverted || g.inverted })
  | none => (s, { e with coincident := s.coincidentPick PickKind.ofSignature e.onset.time })

/-- A new entry goes after all others, or completes at once when it is measured and confirmed (R51, R52, R66). -/
def State.placeEntry (s : State) (e : Entry) : State :=
  if e.isDone then s.completeOne none e else { s with onset := { s.onset with table := s.onset.table ++ [e] } }

/-- A request meets a full table (R53). -/
def State.overrun (s : State) : State :=
  { s with counters := { s.counters with pickOverrun := ctr s.counters.pickOverrun 1 } }

/-- `n` entries or requests discarded by FLSH (R76, R77). -/
def State.countFlushed (s : State) (n : Nat) : State :=
  { s with counters := { s.counters with pendingFlushed := ctr s.counters.pendingFlushed n } }

/-- A detector's create request is taken: late after FLUSH, full table, late after another cause, or in the present run
(R52, R53, R77). -/
def State.createDetectorEntry (s : State) (d : Det) (kind : PickKind) (episode : Nat) (trigger : Ref) (reference : Nat)
    (confirmed : Bool) : State :=
  let late := s.onset.lateCause trigger
  if late = some .flush then s.countFlushed 1
  else if Config.tableSize ≤ s.onset.table.length then s.overrun
  else
    let e := s.detectorEntry d kind episode trigger reference confirmed late.isSome
    let s := { s with onset := s.onset.setLast d ⟨episode, e.onset⟩ }
    match late with
    | some c => s.completeOne (some c) e
    | none =>
      let (s, e) := s.detectorFirst e
      s.placeEntry e

/-- The detector's oldest request leaves its channel. -/
def State.popRequest (s : State) (d : Det) : State := s.setDet d { s.det d with requests := (s.det d).requests.tail }

/-- CREATE_PRIMARY's step. A request on a triple written after a signal that the Onset Unit has still to take waits in its channel
(R17, log 36). -/
def State.takePrimary (s : State) (d : Det) : State :=
  match (s.det d).requests with
  | .createPrimary ep trig ref conf :: _ =>
    if s.onset.feed.holdsBack trig.idx then s
    else (s.popRequest d).createDetectorEntry d .primary ep trig ref conf
  | _ => s

/-- CREATE_PRIMARY (R52). -/
def execCreatePrimary (d : Det) (s : State) : Answer := .next (s.live fun s => s.takePrimary d)

/-- CREATE_SECONDARY's step. It waits as CREATE_PRIMARY's does (R17, log 36). -/
def State.takeSecondary (s : State) (d : Det) : State :=
  match (s.det d).requests with
  | .createSecondary ep trig ref conf :: _ =>
    if s.onset.feed.holdsBack trig.idx then s
    else (s.popRequest d).createDetectorEntry d .secondary ep trig ref conf
  | _ => s

/-- CREATE_SECONDARY (R52). -/
def execCreateSecondary (d : Det) (s : State) : Answer := .next (s.live fun s => s.takeSecondary d)

/-- The SIGNATURE entry a request makes, with the onset it carries, measured (R52, R58). -/
def State.signatureEntry (s : State) (q : SigRequest) (late : Bool) : Entry :=
  let o := s.onset
  let reference := s.detV.long
  measureHeld s.ring (s.measureLimit late) o.onst.measureLen
    { newEntry .signature (.slot q.slot) none q.trigger q.onset reference (threshold reference o.onst.factor)
        o.onst.measureLen true false with
      inverted := q.inverted
      score := some q.score
      label := some q.label }

/-- A match merged into a pending detector entry (R71). -/
def Entry.mergeMatch (e : Entry) (q : SigRequest) : Entry :=
  if e.confirmedBy.isSome then e
  else { e with confirmedBy := some q.slot, score := some q.score, inverted := e.inverted || q.inverted }

/-- A create SIGNATURE request is taken (R52, R58, R71, R77). -/
def State.createSignatureEntry (s : State) (q : SigRequest) : State :=
  let late := s.onset.lateCause q.trigger
  if late = some .flush then s.countFlushed 1
  else if Config.tableSize ≤ s.onset.table.length then s.overrun
  else
    match late with
    | some c => s.completeOne (some c) (s.signatureEntry q true)
    | none =>
      match s.coincidentEntry PickKind.ofDetector q.onset.time with
      | some i =>
        { s with
          onset := { s.onset with table := s.onset.table.modify i (fun e => e.mergeMatch q) }
          counters := { s.counters with picksMerged := ctr s.counters.picksMerged 1 } }
      | none =>
        s.placeEntry { s.signatureEntry q false with coincident := s.coincidentPick PickKind.ofDetector q.onset.time }

/-- CREATE_SIGNATURE's step. A match on a triple written after a signal that the Onset Unit has still to take waits in its channel
(R17, log 36). -/
def State.takeSignature (s : State) : State :=
  match s.bank.requests with
  | [] => s
  | q :: qs =>
    if s.onset.feed.holdsBack q.trigger.idx then s
    else ({ s with bank := { s.bank with requests := qs } }).createSignatureEntry q

/-- CREATE_SIGNATURE (R52, R71). -/
def execCreateSignature (s : State) : Answer := .next (s.live State.takeSignature)

/-! ## Confirmation, cancellation, LONG (R63 to R65) -/

/-- The entry belongs to the episode named. -/
def Entry.ofEpisode (e : Entry) (d : Det) (n : Nat) : Bool := e.episode == some ⟨d, n⟩

/-- CONFIRM's step: the entries of the episode are confirmed and tested (R63). -/
def State.takeConfirm (s : State) (d : Det) : State :=
  match (s.det d).requests with
  | .confirm n :: _ =>
    (s.popRequest d).sweepTable fun e => if e.ofEpisode d n then some { e with confirmed := true } else none
  | _ => s

/-- CONFIRM (R63). -/
def execConfirm (d : Det) (s : State) : Answer := .next (s.live fun s => s.takeConfirm d)

/-- CANCEL's step: the entries of the episode are removed and counted in glitches (R64). -/
def State.takeCancel (s : State) (d : Det) : State :=
  match (s.det d).requests with
  | .cancel n :: _ =>
    let s := s.popRequest d
    { s with
      onset := { s.onset with table := s.onset.table.filter fun e => !e.ofEpisode d n }
      counters := { s.counters with
        glitches := ctr s.counters.glitches (s.onset.table.filter fun e => e.ofEpisode d n).length } }
  | _ => s

/-- CANCEL (R64). -/
def execCancel (d : Det) (s : State) : Answer := .next (s.live fun s => s.takeCancel d)

/-- MARK_LONG's step: the entries of the episode take LONG, are confirmed and tested (R65). -/
def State.takeMarkLong (s : State) (d : Det) : State :=
  match (s.det d).requests with
  | .markLong n :: _ =>
    (s.popRequest d).sweepTable fun e => if e.ofEpisode d n then some { e with long := true, confirmed := true } else none
  | _ => s

/-- MARK_LONG (R65). -/
def execMarkLong (d : Det) (s : State) : Answer := .next (s.live fun s => s.takeMarkLong d)

/-! ## Triples and signals (R59, R75, R76) -/

/-- The Onset Unit takes the next ring triple: each entry whose next triple it is measures it and is tested (R59, R66). -/
def State.onsetTriple (s : State) : State :=
  if s.onset.feed.tripleReady s.ring then
    let idx := s.onset.feed.taken
    let t := s.ring.read idx
    ({ s with onset := { s.onset with feed := s.onset.feed.takeTriple } }).sweepTable fun e =>
      if e.nextIdx = idx && e.accepts t then some (e.measure t) else none
  else s

/-- ONSET_TRIPLE (R59). -/
def execOnsetTriple (s : State) : Answer := .next (s.live State.onsetTriple)

/-- The boundary is set to the newest triple now written (R75, R76, log 9). -/
def State.setBoundary (s : State) (c : Cause) : State :=
  { s with onset := { s.onset with boundary := some ⟨s.ring.written, c⟩ } }

/-- GAP, TIME or STOP taken: every pending entry completes with GAP, and the boundary is set (R75). -/
def State.onsetDiscontinuity (s : State) : State :=
  match s.onset.feed.signalReady with
  | none => s
  | some c =>
    if c = .flush then s
    else
      (({ s with onset := { s.onset with feed := s.onset.feed.takeSignal, table := [] } }).completeAll (some c)
        s.onset.table).setBoundary c

/-- ONSET_DISCONTINUITY (R75). -/
def execOnsetDiscontinuity (s : State) : Answer := .next (s.live State.onsetDiscontinuity)

/-- FLUSH taken: every pending entry is discarded and counted, and the boundary is set (R76). -/
def State.onsetFlush (s : State) : State :=
  match s.onset.feed.signalReady with
  | some .flush =>
    (({ s with onset := { s.onset with feed := s.onset.feed.takeSignal, table := [] } }).countFlushed
      s.onset.table.length).setBoundary .flush
  | _ => s

/-- ONSET_FLUSH (R76, R180). -/
def execOnsetFlush (s : State) : Answer := .next (s.live fun s => s.onsetFlush.finishFlush)

/-! ## ONST and PHAS (R73, R74) -/

/-- ONST's fields: look-back, run length, onset factor, measure length, coincidence tolerance. -/
def onstFields (m : InMsg) : List Nat := takeFields [2, 1, 1, 2, 1] m.body

/-- The onset settings after ONST's fields (R73). -/
def OnsetSettings.apply (p : OnsetSettings) (fs : List Nat) : OnsetSettings where
  lookBack := setting fs 0 8 1024 p.lookBack
  runLength := setting fs 1 1 64 p.runLength
  factor := setting fs 2 16 255 p.factor
  measureLen := setting fs 3 16 256 p.measureLen
  tolerance := setting fs 4 0 255 p.tolerance

/-- A received ONST field was clamped (R73). -/
def onstClamped (fs : List Nat) : Bool :=
  outside fs 0 8 1024 || outside fs 1 1 64 || outside fs 2 16 255 || outside fs 3 16 256 || outside fs 4 0 255

/-- ONST is taken. -/
def takeOnst (m : InMsg) (s : State) : State :=
  let fs := onstFields m
  ackSettings m (onstClamped fs) fs.length { s with onset := { s.onset with onst := s.onset.onst.apply fs } }

/-- ONST. -/
def execOnst (s : State) : Answer := .next (s.live fun s => s.decode (fun m => m.code == 0x0D) always takeOnst)

/-- PHAS's fields: g1, g2, g3, p-limit, s-limit. -/
def phasFields (m : InMsg) : List Nat := takeFields [2, 2, 2, 2, 2] m.body

/-- The phase settings with the received fields stored (R74). -/
def PhaseSettings.store (p : PhaseSettings) (fs : List Nat) : PhaseSettings where
  g1 := setting fs 0 0 4095 p.g1
  g2 := setting fs 1 0 4095 p.g2
  g3 := setting fs 2 0 4095 p.g3
  pLimit := setting fs 3 0 4094 p.pLimit
  sLimit := setting fs 4 1 4095 p.sLimit

/-- The pair checks of R74. -/
def PhaseSettings.pairs (p : PhaseSettings) : PhaseSettings :=
  { p with
    g2 := max p.g2 p.g1
    g3 := max p.g3 (max p.g2 p.g1)
    sLimit := if p.sLimit ≤ p.pLimit then p.pLimit + 1 else p.sLimit }

/-- A received PHAS field was clamped (R74). -/
def phasClamped (fs : List Nat) : Bool :=
  outside fs 0 0 4095 || outside fs 1 0 4095 || outside fs 2 0 4095 || outside fs 3 0 4094 || outside fs 4 1 4095

/-- PHAS is taken. -/
def takePhas (m : InMsg) (s : State) : State :=
  let fs := phasFields m
  let stored := s.onset.phas.store fs
  ackSettings m (phasClamped fs || stored.pairs != stored) fs.length
    { s with onset := { s.onset with phas := stored.pairs } }

/-- PHAS. -/
def execPhas (s : State) : Answer := .next (s.live fun s => s.decode (fun m => m.code == 0x0E) always takePhas)

end Sys2Proof.Machine
end

