-- ==== Sys2Proof/Machine/SamplePort.lean ====
section
/-! DEFINITION. Chapter 1: the framer, the judgement of blocks, delivery, the Conditioner, the write into the History Ring, and
the messages INPT, RUN and STOP. -/

namespace Sys2Proof.Machine

/-! ## The frame (R3 to R5) -/

/-- One bit of the check: the register's top bit is combined with the data bit, the register shifts left, and takes 0x1021 when
the combined bit was 1 (R5). -/
def crcBit (r : BitVec 16) (b : Bool) : BitVec 16 := if r.msb != b then (r <<< 1) ^^^ 0x1021 else r <<< 1

/-- One byte of the check, most significant bit first. -/
def crcByte (r : BitVec 16) (b : Byte) : BitVec 16 :=
  [7, 6, 5, 4, 3, 2, 1, 0].foldl (fun r i => crcBit r (b.getLsbD i)) r

/-- The check of a run of bytes, from a register of all ones (R5). -/
def crc (bs : List Byte) : BitVec 16 := bs.foldl crcByte 0xFFFF

/-- The bytes of the header: stream id, sequence, first-sample time, count. -/
abbrev headerLen : Nat := 10

/-- The count byte of a header. -/
def frameCount (bs : List Byte) : Nat := ((bs[9]?).getD 0).toNat

/-- The first-sample time of a header. -/
def frameFirst (bs : List Byte) : Nat := beVal ((bs.drop 3).take 6)

/-- The raw triples of a run of sample bytes, nine bytes each (section 9.1). -/
def frameSamples : Nat → List Byte → List (ZNE Int)
  | 0, _ => []
  | n + 1, bs =>
    ⟨signed24 (beVal (bs.take 3)), signed24 (beVal ((bs.drop 3).take 3)), signed24 (beVal ((bs.drop 6).take 3))⟩
      :: frameSamples n (bs.drop 9)

/-- The block that a frame's bytes spell. -/
def frameBlock (bs : List Byte) : Block :=
  ⟨beVal (bs.take 1), beVal ((bs.drop 1).take 2), frameFirst bs, frameSamples (frameCount bs) (bs.drop headerLen)⟩

/-! ## Judgement and delivery (R8, R11 to R15) -/

/-- A block's triples with their own times, the first marked DISC when it begins a run (R8, R11). A time of 2^48 or more, which a
frame counted under a shorter period can give (R4), is kept without bound: the model's choice (log 31). -/
def blockTriples (period : Nat) : Nat → Bool → List (ZNE Int) → List PortTriple
  | _, _, [] => []
  | t, disc, x :: xs => ⟨x, t, false, disc⟩ :: blockTriples period (t + period) false xs

/-- `k` filled triples from time `t` on, each a copy of the last raw value delivered (R13). -/
def filledTriples (period : Nat) (raw : ZNE Int) : Nat → Nat → List PortTriple
  | 0, _ => []
  | k + 1, t => ⟨raw, t, true, false⟩ :: filledTriples period raw k (t + period)

/-- The raw value of the last triple delivered, which is the newest in the ring. -/
def Ring.lastRaw (r : Ring) : ZNE Int := (r.held.head?.map Triple.raw).getD ⟨0, 0, 0⟩

/-- Delivery of a judged block begins: its sequence becomes the last sequence number, and the expected next time one period
after its last triple (R7, R12). -/
def State.deliver (s : State) (b : Block) (fill : List PortTriple) (disc : Bool) : State :=
  { s with port := { s.port with
      delivering := fill ++ blockTriples s.period b.first disc b.samples
      lastSeq := some b.sequence
      expected := some (b.first + b.samples.length * s.period) } }

/-- `n` more triples counted in gaps_filled. -/
def Counters.filled (c : Counters) (n : Nat) : Counters := { c with gapsFilled := ctr c.gapsFilled n }

/-- The block taken for delivery is judged (R11 to R15). -/
def State.judge (s : State) (b : Block) : State :=
  match s.port.input, s.port.expected with
  | .running, some x =>
    let half : Int := (s.period / 2 : Nat)
    let d : Int := (b.first : Int) - x
    if d < half then
      if -half < d then s.deliver b [] false
      else
        ((({ s with counters := { s.counters with timeBackward := ctr s.counters.timeBackward 1 } }).notify
            .inputLost).raiseSignal .time).deliver b [] true
    else
      let k := ((d + half) / (s.period : Int)).toNat
      if k ≤ s.port.settings.fillLimit then
        ({ s with counters := s.counters.filled k }).deliver b (filledTriples s.period s.ring.lastRaw k x) false
      else
        ((({ s with counters := { s.counters with gapsLong := ctr s.counters.gapsLong 1 } }).notify
            .inputLost).raiseSignal .gap).deliver b [] true
  | _, _ => (({ s with port := { s.port with input := .running } }).notify .inputFound).deliver b [] true

/-- A tested block is judged at once when the delivering buffer is idle, and waits otherwise (R8). -/
def State.offerBlock (s : State) (b : Block) : State :=
  if s.port.delivering.isEmpty then s.judge b else { s with port := { s.port with waiting := some b } }

/-- A block in RUNNING with the last sequence number and a time not later than the expected next time (R7). -/
def SamplePort.isDuplicate (p : SamplePort) (b : Block) : Bool :=
  p.lastSeq == some b.sequence && (match p.expected with | none => false | some x => decide (b.first ≤ x))

/-- One more block counted in blocks_good. -/
def State.countGood (s : State) : State :=
  { s with counters := { s.counters with blocksGood := ctr s.counters.blocksGood 1 } }

/-- What becomes of a checked block (R6, R7, R9). -/
def State.takeBlock (s : State) (b : Block) : State :=
  if b.stream ≠ s.port.settings.stream then
    { s with counters := { s.counters with blocksWrongStream := ctr s.counters.blocksWrongStream 1 } }
  else
    match s.port.input with
    | .stopped => s.countGood
    | .hunting => s.countGood.offerBlock b
    | .running =>
      if s.port.isDuplicate b then
        { s with counters := { s.counters with blocksDuplicate := ctr s.counters.blocksDuplicate 1 } }
      else s.countGood.offerBlock b

/-- The framer searches again, with no byte held. -/
def State.search (s : State) : State := { s with port := { s.port with framer := .searching false } }

/-- The last check byte has arrived (R5). -/
def State.endFrame (s : State) (bs : List Byte) : State :=
  let covered := bs.take (bs.length - 2)
  if (crc covered).toNat = beVal (bs.drop (bs.length - 2)) then s.search.takeBlock (frameBlock covered)
  else { s.search with counters := { s.counters with blocksBadCheck := ctr s.counters.blocksBadCheck 1 } }

/-- The count byte fails its test: 0, over 64, or times that do not fit in 48 bits with the period then in force (R4, logs 21,
31). -/
def badCount (period : Nat) (bs : List Byte) : Bool :=
  let c := frameCount bs
  decide (c = 0) || decide (64 < c) || decide (2 ^ 48 ≤ frameFirst bs + (c - 1) * period)

/-- A receiving framer has read `bs` (R3, R4). -/
def State.frameByte (s : State) (bs : List Byte) : State :=
  if bs.length = headerLen && badCount s.period bs then
    { s.search with counters := { s.counters with blocksBadCount := ctr s.counters.blocksBadCount 1 } }
  else if headerLen < bs.length && decide (bs.length = headerLen + 9 * frameCount bs + 2) then s.endFrame bs
  else { s with port := { s.port with framer := .receiving bs } }

/-- A character of the sample port (R3): while a completed block waits, it is discarded (R8). -/
def State.sampleByte (s : State) (b : Byte) : State :=
  if s.port.waiting.isSome then s
  else
    match s.port.framer with
    | .searching held =>
      if held && b == 0x3C then { s with port := { s.port with framer := .receiving [] } }
      else { s with port := { s.port with framer := .searching (b == 0xC3) } }
    | .receiving bs => s.frameByte (bs ++ [b])

/-- SAMPLE_CHARACTER (R3 to R9). -/
def execSampleCharacter (byte : Byte) (s : State) : Answer := .next (s.live fun s => s.sampleByte byte)

/-! ## The Conditioner (R20, R21) -/

/-- A component sample is clipped: at or beyond the clip level, or the most negative count (R21). -/
def isClipped (level : Nat) (x : Int) : Bool := decide (level ≤ x.natAbs) || x == -8388608

/-- The conditioned value of a count that does not begin a run (R20). -/
def conditioned (m x : Int) : Int := sat24 (x - m)

/-- The offset after such a count: held when the count is clipped (R20). -/
def nextOffset (shift level : Nat) (m x : Int) : Int := if isClipped level x then m else m + (x - m) / 2 ^ shift

/-- A function of two counts on each component. -/
def ZNE.zip (f : Int → Int → Int) (a b : ZNE Int) : ZNE Int := ⟨f a.z b.z, f a.n b.n, f a.e b.e⟩

/-- The stored triple: on the first of a run (or while the offsets are unset) the offsets take the raw counts and the
conditioned values are 0 (R20). -/
def conditionTriple (set : InputSettings) (offsets : Option (ZNE Int)) (t : PortTriple) (disc : Bool) : Triple where
  raw := t.raw
  cond := match disc, offsets with
    | false, some m => ZNE.zip conditioned m t.raw
    | _, _ => ⟨0, 0, 0⟩
  clip := t.raw.map (isClipped set.clipLevel)
  filled := t.filled
  disc := disc
  time := t.time

/-- The offsets after the triple (R20). -/
def offsetsAfter (set : InputSettings) (offsets : Option (ZNE Int)) (t : PortTriple) (disc : Bool) : ZNE Int :=
  match disc, offsets with
  | false, some m => ZNE.zip (nextOffset set.shift set.clipLevel) m t.raw
  | _, _ => t.raw

/-- Every reader has taken the triple in the position the next write goes to (R22). -/
def State.writeReady (s : State) : Bool := s.feeds.all fun f => decide (s.ring.written < f.taken + Config.ringSize)

/-- The next triple of the delivering buffer is conditioned and written; it carries DISC also when the FLSH note stands
(R17, R20, R22). -/
def State.handOn (s : State) (t : PortTriple) (ts : List PortTriple) : State :=
  let disc := t.disc || s.port.flushNote
  { s with
    port := { s.port with delivering := ts, flushNote := false }
    offsets := some (offsetsAfter s.port.settings s.offsets t disc)
    ring := s.ring.write (conditionTriple s.port.settings s.offsets t disc) }

/-- When the last triple has been handed on, a waiting block is judged and begins delivery (R8). -/
def State.exchange (s : State) : State :=
  match s.port.delivering, s.port.waiting with
  | [], some b => ({ s with port := { s.port with waiting := none, framer := .searching false } }).judge b
  | _, _ => s

/-- The step of the Conditioner, when a triple is being delivered and the ring can take it. -/
def State.conditionNext (s : State) : State :=
  match s.port.delivering with
  | [] => s
  | t :: ts => if s.writeReady then (s.handOn t ts).exchange else s

/-- CONDITION_TRIPLE (R8, R20 to R22). -/
def execConditionTriple (s : State) : Answer := .next (s.live State.conditionNext)

/-! ## INPT, RUN and STOP (R10, R16, R18) -/

/-- INPT's fields: stream id, rate, fill limit, offset shift, clip level (section 9.3). -/
def inptFields (m : InMsg) : List Nat := takeFields [1, 2, 1, 1, 3] m.body

/-- The input settings after INPT's fields (R18). -/
def InputSettings.apply (p : InputSettings) (fs : List Nat) : InputSettings where
  stream := setting fs 0 0 255 p.stream
  rate := match fs[1]? with
    | none => p.rate
    | some v => rateOf v
  fillLimit := setting fs 2 0 16 p.fillLimit
  shift := setting fs 3 4 16 p.shift
  clipLevel := setting fs 4 1 8388607 p.clipLevel

/-- A received INPT field was clamped (R18). -/
def inptClamped (fs : List Nat) : Bool :=
  (match fs[1]? with | none => false | some v => rateOutside v) || outside fs 2 0 16 || outside fs 3 4 16 ||
    outside fs 4 1 8388607

/-- INPT is taken in STOPPED alone (R18). -/
def takeInpt (m : InMsg) (s : State) : State :=
  if s.port.input = .stopped then
    let fs := inptFields m
    ackSettings m (inptClamped fs) fs.length
      { s with port := { s.port with settings := s.port.settings.apply fs } }
  else s.reply (.rfsd m.code .state)

/-- INPT. -/
def execInpt (s : State) : Answer := .next (s.live fun s => s.decode (fun m => m.code == 0x08) always takeInpt)

/-- RUN in STOPPED looks for input; otherwise it is refused STATE (R10). -/
def takeRun (m : InMsg) (s : State) : State :=
  if s.port.input = .stopped then
    ({ s with port := { s.port with input := .hunting, lastSeq := none, expected := none } }).reply
      (.ackn m.code false false 0)
  else s.reply (.rfsd m.code .state)

/-- RUN. -/
def execRun (s : State) : Answer := .next (s.live fun s => s.decode (fun m => m.code == 0x09) always (action 0 takeRun))

/-- STOP discards the frame in progress and a waiting block; from HUNTING or RUNNING it ends delivery, raises the discontinuity
and stops the input (R16). That a searching framer drops a 0xC3 it holds is the model's choice (log 30). -/
def State.stopInput (s : State) : State :=
  let s := { s with port := { s.port with framer := .searching false, waiting := none } }
  if s.port.input = .stopped then s
  else
    let s := s.raiseSignal .stop
    { s with port := { s.port with input := .stopped, delivering := [] } }

/-- STOP is answered with ACKN in every input state (R16). -/
def takeStop (m : InMsg) (s : State) : State := s.stopInput.reply (.ackn m.code false false 0)

/-- STOP. -/
def execStop (s : State) : Answer := .next (s.live fun s => s.decode (fun m => m.code == 0x0A) always (action 0 takeStop))

end Sys2Proof.Machine
end

