-- ==== Sys2Proof/Machine/Dispatch.lean ====
section
/-! DEFINITION. The meaning of every command: one arm per row of spec/opcode_table.json. -/

namespace Sys2Proof.Machine

def exec (i : Instr) (s : State) : Host.Outcome State Fault Refusal :=
  match i with
  | .pinReset rate1 rate0 => Sys2Proof.Machine.execPinReset rate1 rate0 s
  | .sampleCharacter byte => Sys2Proof.Machine.execSampleCharacter byte s
  | .conditionTriple => Sys2Proof.Machine.execConditionTriple s
  | .detectorTriple d => Sys2Proof.Machine.execDetectorTriple d s
  | .confirmation d => Sys2Proof.Machine.execConfirmation d s
  | .forcedRelease d => Sys2Proof.Machine.execForcedRelease d s
  | .warmupEnd d => Sys2Proof.Machine.execWarmupEnd d s
  | .recoveryEnd d => Sys2Proof.Machine.execRecoveryEnd d s
  | .detectorDiscontinuity d => Sys2Proof.Machine.execDetectorDiscontinuity d s
  | .detectorFlush d => Sys2Proof.Machine.execDetectorFlush d s
  | .createPrimary d => Sys2Proof.Machine.execCreatePrimary d s
  | .createSecondary d => Sys2Proof.Machine.execCreateSecondary d s
  | .createSignature => Sys2Proof.Machine.execCreateSignature s
  | .confirm d => Sys2Proof.Machine.execConfirm d s
  | .cancel d => Sys2Proof.Machine.execCancel d s
  | .markLong d => Sys2Proof.Machine.execMarkLong d s
  | .onsetTriple => Sys2Proof.Machine.execOnsetTriple s
  | .onsetDiscontinuity => Sys2Proof.Machine.execOnsetDiscontinuity s
  | .onsetFlush => Sys2Proof.Machine.execOnsetFlush s
  | .signatureTriple => Sys2Proof.Machine.execSignatureTriple s
  | .signatureDiscontinuity => Sys2Proof.Machine.execSignatureDiscontinuity s
  | .signatureFlush => Sys2Proof.Machine.execSignatureFlush s
  | .associatePick => Sys2Proof.Machine.execAssociatePick s
  | .associationTriple => Sys2Proof.Machine.execAssociationTriple s
  | .associationGap => Sys2Proof.Machine.execAssociationGap s
  | .associationTime => Sys2Proof.Machine.execAssociationTime s
  | .associationFlush => Sys2Proof.Machine.execAssociationFlush s
  | .routePick => Sys2Proof.Machine.execRoutePick s
  | .queueArrival => Sys2Proof.Machine.execQueueArrival s
  | .localTick => Sys2Proof.Machine.execLocalTick s
  | .holdTimerExpiry queue => Sys2Proof.Machine.execHoldTimerExpiry queue s
  | .snippetTriple => Sys2Proof.Machine.execSnippetTriple s
  | .snippetDiscontinuity => Sys2Proof.Machine.execSnippetDiscontinuity s
  | .linkCharacter mark byte stopAtMark => Sys2Proof.Machine.execLinkCharacter mark byte stopAtMark s
  | .lineBreak => Sys2Proof.Machine.execLineBreak s
  | .peerHold => Sys2Proof.Machine.execPeerHold s
  | .peerGo => Sys2Proof.Machine.execPeerGo s
  | .unknownCode => Sys2Proof.Machine.execUnknownCode s
  | .rstr => Sys2Proof.Machine.execRstr s
  | .flsh => Sys2Proof.Machine.execFlsh s
  | .stat => Sys2Proof.Machine.execStat s
  | .cntr => Sys2Proof.Machine.execCntr s
  | .inpt => Sys2Proof.Machine.execInpt s
  | .run => Sys2Proof.Machine.execRun s
  | .stop => Sys2Proof.Machine.execStop s
  | .dets => Sys2Proof.Machine.execDets s
  | .onst => Sys2Proof.Machine.execOnst s
  | .phas => Sys2Proof.Machine.execPhas s
  | .evts => Sys2Proof.Machine.execEvts s
  | .rout => Sys2Proof.Machine.execRout s
  | .qset => Sys2Proof.Machine.execQset s
  | .grnt => Sys2Proof.Machine.execGrnt s
  | .qrst => Sys2Proof.Machine.execQrst s
  | .snip => Sys2Proof.Machine.execSnip s
  | .sigw => Sys2Proof.Machine.execSigw s
  | .sige => Sys2Proof.Machine.execSige s
  | .sigd => Sys2Proof.Machine.execSigd s
  | .redy => Sys2Proof.Machine.execRedy s
  | .ackn => Sys2Proof.Machine.execAckn s
  | .rfsd => Sys2Proof.Machine.execRfsd s
  | .strp => Sys2Proof.Machine.execStrp s
  | .cntp => Sys2Proof.Machine.execCntp s
  | .note => Sys2Proof.Machine.execNote s
  | .pick => Sys2Proof.Machine.execPick s
  | .evnt => Sys2Proof.Machine.execEvnt s
  | .segm => Sys2Proof.Machine.execSegm s
  | .ownHold => Sys2Proof.Machine.execOwnHold s
  | .ownGo => Sys2Proof.Machine.execOwnGo s
  | .resetnLow => Sys2Proof.Machine.execResetnLow s
  | .lineReturnsToMark => Sys2Proof.Machine.execLineReturnsToMark s
  | .characterBoundary => Sys2Proof.Machine.execCharacterBoundary s

end Sys2Proof.Machine
end

