-- ==== Sys2Proof/Safety.lean ====
section
/-! DEFINITION. What a safe state of the part is, in the terms the claims use: nothing holds more than the spec allows, every
setting lies in its range, numbers are legal, and every snippet slot in use is named by exactly one snippet item. Also the
occasions the claims name: a message ready to be decoded, a block whose check has just completed, the reset values. -/

namespace Sys2Proof.Machine

/-! ## Occasions -/

/-- The decoder may take `m`: RESETN is high, no FLSH is still being decoded, `m` is the oldest message and is complete or
broken, and the reply queue has a free place (R162). -/
def State.decodes (s : State) (m : InMsg) : Prop :=
  s.resetLow = false ∧ s.flushing = false ∧ s.link.inbox.head? = some m ∧ m.status ≠ .inProgress ∧
    s.link.replies.length < 8

/-- Byte `b` ends a frame whose check agrees, and the frame spells `bk`: the bytes since the sync pair are the ten of the header,
nine for each triple of its count, and two check bytes (R4, R5, section 9.1). -/
def State.checksBlock (s : State) (b : Byte) (bk : Block) : Prop :=
  s.resetLow = false ∧ s.port.waiting = none ∧
    ∃ bs, s.port.framer = .receiving bs ∧ (bs ++ [b]).length = 12 + 9 * frameCount (bs ++ [b]) ∧
      (crc ((bs ++ [b]).take ((bs ++ [b]).length - 2))).toNat = beVal ((bs ++ [b]).drop ((bs ++ [b]).length - 2)) ∧
      bk = frameBlock ((bs ++ [b]).take ((bs ++ [b]).length - 2))

/-- The triples of a block delivered with its own times, the first marked DISC when `disc` (R8, R11). -/
def Block.triples (bk : Block) (period : Nat) (disc : Bool) : List PortTriple :=
  bk.samples.zipIdx.map fun (x, i) => ⟨x, bk.first + i * period, false, disc && i == 0⟩

/-- A DETS with these fields clamps or adjusts something (R39, R40): a field outside its range, or a pair of a selected detector whose
settings, once the fields are stored, need the pair check. -/
def State.detsClamps (s : State) (fs : List Nat) : Prop :=
  let out (i lo hi : Nat) : Prop := ∃ v, fs[i]? = some v ∧ (v < lo ∨ hi < v)
  let put (i lo hi old : Nat) : Nat := (fs[i]?.map fun v => max lo (min hi v)).getD old
  let adjusted (p : DetSettings) : Prop :=
    put 3 4 14 p.kl < put 2 1 8 p.ks + 3 ∨
      (put 5 20 4095 p.onLevel ≤ put 6 16 4094 p.offLevel ∧ 0 < put 6 16 4094 p.offLevel)
  out 0 0 2 ∨ out 2 1 8 ∨ out 3 4 14 ∨ out 4 1 4294967295 ∨ out 5 20 4095 ∨ out 6 16 4094 ∨ out 7 1 255 ∨ out 8 1 65535 ∨
    out 9 24 255 ∨ out 10 1 4095 ∨ out 11 0 4095 ∨
    ∃ d v, fs[0]? = some v ∧ (v = (match d with | .v => 0 | .h => 1) ∨ 2 ≤ v) ∧ adjusted (s.det d).settings

/-- The `n` bytes at offset `off` of a body carry `v`, most significant byte first, where `v` fits in them (log 7). -/
def carries (bs : List Byte) (off n v : Nat) : Prop := v < 256 ^ n → beVal ((bs.drop off).take n) = v

/-- `o` is the place of the candidate of greatest rank, a tie going to the earlier; none when there is no candidate. -/
def isBest {α : Type} (l : List α) (candidate : α → Prop) (rank : α → Int) (o : Option Nat) : Prop :=
  (o = none ↔ ∀ a ∈ l, ¬candidate a) ∧
    ∀ i, o = some i ↔ ∃ a, l[i]? = some a ∧ candidate a ∧
      ∀ j b, l[j]? = some b → candidate b → rank b ≤ rank a ∧ (j < i → rank b < rank a)

/-- A detector's reset values (R49). -/
def Detector.atReset (x : Detector) : Prop :=
  x.feed = ⟨0, []⟩ ∧ x.state = .warmup ∧ x.short = 0 ∧ x.long = 0 ∧ x.ratio = 0 ∧ x.warmupCount = 0 ∧ x.recoveryCount = 0 ∧
    x.episode = none ∧ x.nextEpisode = 1 ∧ x.due = none ∧ x.requests = [] ∧
    x.settings = ⟨true, 3, 9, 100, 56, 24, 4, 6000, 40, 50, 100⟩

/-- A signature slot's reset values (R79). -/
def SigSlot.atReset (x : SigSlot) : Prop :=
  x.state = .empty ∧ x.positions = List.replicate 256 ⟨0, .stop⟩ ∧ x.writePtr = 0 ∧ x.gate = 0 ∧ x.m16 = 12 ∧
    x.onsetOffset = 0 ∧ x.label = .p ∧ x.invert = false ∧ x.dead = 0

/-- A queue's reset values (R138). -/
def Queue.atReset (q : Queue) : Prop :=
  q.records = [] ∧ q.credits = 0 ∧ q.batch = 1 ∧ q.hold = 0 ∧ q.timer = .stopped ∧ q.expiry = false ∧ q.ready = false ∧
    q.starved = false ∧ q.lossNote = false

/-- A snippet slot's reset values (R141, R154). -/
def SnipSlot.atReset (x : SnipSlot) : Prop :=
  x.state = .free ∧ x.triples = [] ∧ x.pick = 0 ∧ x.cut = false ∧ x.complete = false

/-- Every block stands at its reset values, and nothing is in flight between blocks (R19, R24, R49, R78, R97, R118, R120, R138,
R154, R174, R179). What pin reset and RSTR leave differently (the receive line, the character being sent, REDY, local time, the
straps) is not spoken of. -/
def State.atReset (s : State) : Prop :=
  s.port = ⟨.stopped, .searching false, none, [], none, none, false, ⟨0, .sps100, 4, 10, 8388607⟩⟩ ∧
    s.offsets = none ∧ s.ring = ⟨0, []⟩ ∧ s.detV.atReset ∧ s.detH.atReset ∧
    s.onset = ⟨⟨0, []⟩, [], none, none, none, 1, ⟨200, 5, 32, 100, 10⟩, ⟨64, 256, 1024, 12, 32⟩⟩ ∧
    (s.bank.feed = ⟨0, []⟩ ∧ s.bank.requests = [] ∧ ∀ n, (s.bank.slots.get n).atReset) ∧
    s.assoc = ⟨⟨0, []⟩, [], [], [], 1, none, none, none, ⟨50, 3000, 10, 2000, 4000, false, some 0⟩⟩ ∧
    s.outbox = [] ∧ s.routes = List.replicate 64 ⟨some 0, false⟩ ∧ (∀ q, (s.queues.get q).atReset) ∧
    (s.snips.feed = ⟨0, []⟩ ∧ s.snips.boundary = none ∧ s.snips.settings = ⟨50, 150, 16⟩ ∧
      ∀ n, (s.snips.slots.get n).atReset) ∧
    (s.link.inbox = [] ∧ s.link.ownHold = false ∧ s.link.flow = none ∧ s.link.peerHold = false ∧ s.link.replies = [] ∧
      s.link.notices = [] ∧ s.link.rest = []) ∧
    s.flushing = false ∧ (∀ k ∈ s.counters.list, k = 0)

/-! ## Safe states -/

/-- The report queues hold at most 96 records together (R123). -/
def State.poolBounded (s : State) : Prop := s.poolHeld ≤ 96

/-- The tables and lists of fixed size hold no more than their size, and the Route Table exactly its size (R51, R99, R100, R120). -/
def State.tablesBounded (s : State) : Prop :=
  s.onset.table.length ≤ 16 ∧ s.assoc.recent.length ≤ 16 ∧ s.assoc.events.length ≤ 8 ∧ s.routes.length = 64

/-- The reply queue holds at most 8 replies, and has a place for the ACKN of an FLSH still being decoded (R162, R168). -/
def State.repliesBounded (s : State) : Prop := s.link.replies.length + (if s.flushing then 1 else 0) ≤ 8

/-- The inbound buffer holds at most 256 bytes (R160). -/
def State.inboxBounded (s : State) : Prop := s.link.fill ≤ 256

/-- The ring holds the newest 4096 triples written since reset, or all of them (R22). -/
def State.ringFull (s : State) : Prop := s.ring.held.length = min s.ring.written 4096

/-- No reader has taken a triple that has not been written, or is further behind than the ring can hold (R22). -/
def State.readersInRing (s : State) : Prop :=
  ∀ f ∈ s.feeds, f.taken ≤ s.ring.written ∧ s.ring.written ≤ f.taken + 4096

/-- The signals a reader has still to take stand in the order in which they were raised, none raised later than now, and the reader has
treated no triple written after one of them (R17). -/
def State.signalsInOrder (s : State) : Prop :=
  ∀ f ∈ s.feeds, (f.signals.map Signal.after).Pairwise (· ≤ ·) ∧ ∀ g ∈ f.signals, f.taken ≤ g.after ∧ g.after ≤ s.ring.written

/-- While an FLSH is being decoded, some reader has still to take its signal (R180, log 10). -/
def State.flushHeld (s : State) : Prop := s.flushing = true → ∃ f ∈ s.feeds, ∃ g ∈ f.signals, g.cause = .flush

/-- Pick, event and episode numbers run 1..65535 (R31, R66, R101). -/
def State.numbersLegal (s : State) : Prop :=
  (1 ≤ s.onset.nextPick ∧ s.onset.nextPick ≤ 65535) ∧ (1 ≤ s.assoc.nextEvent ∧ s.assoc.nextEvent ≤ 65535) ∧
    (1 ≤ s.detV.nextEpisode ∧ s.detV.nextEpisode ≤ 65535) ∧ (1 ≤ s.detH.nextEpisode ∧ s.detH.nextEpisode ≤ 65535)

/-- A 24-bit signed count. -/
def isCount (x : Int) : Prop := -8388608 ≤ x ∧ x ≤ 8388607

/-- Every conditioned value held is a 24-bit signed count (R20). -/
def Ring.condBounded (r : Ring) : Prop := ∀ t ∈ r.held, isCount t.cond.z ∧ isCount t.cond.n ∧ isCount t.cond.e

/-- The levels lie within 0..2^46 and the current ratio within 0..4095 (R26, R27). -/
def Detector.levelsBounded (x : Detector) : Prop := x.short ≤ 2 ^ 46 ∧ x.long ≤ 2 ^ 46 ∧ x.ratio ≤ 4095

/-- Levels and conditioned values are in range together: each rests on the other (R20, R26, R27). -/
def State.levelsBounded (s : State) : Prop := s.ring.condBounded ∧ s.detV.levelsBounded ∧ s.detH.levelsBounded

/-- A detector has an episode open exactly when it is TRIGGERED; it is in OFF exactly when it is disabled, with ratio 0 there; and
what is still due of a triple's treatment belongs to its state (R28 to R37, R44, R45, log 4). -/
def Detector.coherent (x : Detector) : Prop :=
  (x.state = .triggered ↔ x.episode.isSome = true) ∧ (x.state = .off ↔ x.settings.enabled = false) ∧
    (x.state = .off → x.ratio = 0) ∧
    match x.due with
    | none => True
    | some .warmupEnd => x.state = .warmup
    | some .recoveryEnd => x.state = .recovery
    | some .forcedRelease => x.state = .triggered
    | some (.confirmation _) => x.state = .triggered

/-- A detector's settings lie in their ranges, pairs included (R40). -/
def DetSettings.inRange (p : DetSettings) : Prop :=
  (1 ≤ p.ks ∧ p.ks ≤ 8) ∧ (p.ks + 3 ≤ p.kl ∧ 4 ≤ p.kl ∧ p.kl ≤ 14) ∧ (1 ≤ p.lmin ∧ p.lmin ≤ 4294967295) ∧
    (20 ≤ p.onLevel ∧ p.onLevel ≤ 4095) ∧ (16 ≤ p.offLevel ∧ p.offLevel < p.onLevel) ∧
    (1 ≤ p.minDuration ∧ p.minDuration ≤ 255) ∧ (1 ≤ p.maxDuration ∧ p.maxDuration ≤ 65535) ∧
    (24 ≤ p.k2 ∧ p.k2 ≤ 255) ∧ (1 ≤ p.separation ∧ p.separation ≤ 4095) ∧ p.recovery ≤ 4095

/-- Every setting of the part lies in its range (R18, R40, R73, R74, R117, R133, R153). -/
def State.settingsInRange (s : State) : Prop :=
  (s.port.settings.stream ≤ 255 ∧ s.port.settings.fillLimit ≤ 16 ∧
      (4 ≤ s.port.settings.shift ∧ s.port.settings.shift ≤ 16) ∧
      (1 ≤ s.port.settings.clipLevel ∧ s.port.settings.clipLevel ≤ 8388607)) ∧
    s.detV.settings.inRange ∧ s.detH.settings.inRange ∧
    ((8 ≤ s.onset.onst.lookBack ∧ s.onset.onst.lookBack ≤ 1024) ∧
      (1 ≤ s.onset.onst.runLength ∧ s.onset.onst.runLength ≤ 64) ∧
      (16 ≤ s.onset.onst.factor ∧ s.onset.onst.factor ≤ 255) ∧
      (16 ≤ s.onset.onst.measureLen ∧ s.onset.onst.measureLen ≤ 256) ∧ s.onset.onst.tolerance ≤ 255) ∧
    ((s.onset.phas.g1 ≤ s.onset.phas.g2 ∧ s.onset.phas.g2 ≤ s.onset.phas.g3 ∧ s.onset.phas.g3 ≤ 4095) ∧
      s.onset.phas.pLimit < s.onset.phas.sLimit ∧ s.onset.phas.sLimit ≤ 4095) ∧
    ((1 ≤ s.assoc.settings.spMin ∧ s.assoc.settings.spMin ≤ s.assoc.settings.spMax ∧ s.assoc.settings.spMax ≤ 65535) ∧
      s.assoc.settings.pTolerance ≤ 255 ∧ s.assoc.settings.xWindow ≤ 65535 ∧
      (256 ≤ s.assoc.settings.closeWindow ∧ s.assoc.settings.closeWindow ≤ 65535)) ∧
    (∀ i, (1 ≤ (s.queues.get i).batch ∧ (s.queues.get i).batch ≤ 32) ∧ (s.queues.get i).hold ≤ 10000) ∧
    (s.snips.settings.pre ≤ 255 ∧ (1 ≤ s.snips.settings.post ∧ s.snips.settings.post ≤ 511) ∧
      s.snips.settings.pre + s.snips.settings.post ≤ 512 ∧ (4 ≤ s.snips.settings.size ∧ s.snips.settings.size ≤ 24))

/-- A record that has had no segment sent (R123). -/
def Record.unsent : Record → Bool
  | .item _ k => k == 0
  | _ => true

/-- A queue's credits and elapsed time are in range; it is timed exactly while it holds records, and not ready without any; an expiry
still to be taken is that of an expired timer; a snippet item that has sent a segment stands at the head; and the starvation test
has been made (R123, R127, R129 to R131, R135). -/
def Queue.sound (q : Queue) : Prop :=
  q.credits ≤ 255 ∧ (∀ n, q.timer = .running n → n ≤ 10000) ∧ (q.records = [] ↔ q.timer = .stopped) ∧
    (q.records = [] → q.ready = false) ∧ (q.expiry = true → q.timer = .expired) ∧ (∀ r ∈ q.records.tail, r.unsent = true) ∧
    q.starves = false

/-- Every queue is sound. -/
def State.queuesSound (s : State) : Prop := ∀ i, (s.queues.get i).sound

/-- A signature slot: 256 positions, a write pointer within 0..256, parameters in range; no dead time unless ACTIVE, and then at most N;
while ACTIVE, N and Ncmp are those of its contents, which are a valid signature (R79 to R88, R93). -/
def SigSlot.sound (x : SigSlot) : Prop :=
  x.positions.length = 256 ∧ x.writePtr ≤ 256 ∧ x.gate ≤ 8388607 ∧ (1 ≤ x.m16 ∧ x.m16 ≤ 16) ∧
    (x.state ≠ .active → x.dead = 0) ∧
    (x.state = .active → x.length = slotLength x.positions ∧ x.compareCount = comparesOf x.positions ∧ 8 ≤ x.length ∧
      1 ≤ x.compareCount ∧ x.dead ≤ x.length ∧ x.onsetOffset < x.length)

/-- Every signature slot is sound. -/
def State.slotsSound (s : State) : Prop := ∀ n, (s.bank.slots.get n).sound

/-- Every slot number named by a snippet item in the pool, queue by queue. -/
def State.itemSlots (s : State) : List (Fin 8) := (s.queues.map fun q => slotsOf q.records).toList.flatten

/-- A snippet slot that is not FREE is named by exactly one snippet item, and a FREE one by none (R141). -/
def State.slotsOwned (s : State) : Prop :=
  ∀ n, s.itemSlots.count n = if (s.snips.slots.get n).state = .free then 0 else 1

/-- No routed pick stands behind the first pick of the outbox, and a first pick routed with a snippet item finds a FREE slot
(R142, log 11). -/
def State.outboxSound (s : State) : Prop :=
  match firstPick s.outbox with
  | none => True
  | some (_, h, after) =>
    (∀ x ∈ after, ∀ q r, x ≠ .routed q r) ∧ (∀ q r, h = .routed q r → r.mark = .snippet → s.snips.lowestFree.isSome = true)

/-- Every counter is a 32-bit count (R19, R187). -/
def Counters.bounded (c : Counters) : Prop :=
  c.blocksGood ≤ 4294967295 ∧ c.blocksBadCount ≤ 4294967295 ∧ c.blocksBadCheck ≤ 4294967295 ∧
    c.blocksWrongStream ≤ 4294967295 ∧ c.blocksDuplicate ≤ 4294967295 ∧ c.gapsFilled ≤ 4294967295 ∧
    c.gapsLong ≤ 4294967295 ∧ c.timeBackward ≤ 4294967295 ∧ c.pickOverrun ≤ 4294967295 ∧ c.glitches ≤ 4294967295 ∧
    c.picksMerged ≤ 4294967295 ∧ c.pendingFlushed ≤ 4294967295 ∧ c.signatureMatches ≤ 4294967295 ∧
    c.eventsForced ≤ 4294967295 ∧ c.routeDiscards ≤ 4294967295 ∧ c.snippetLost ≤ 4294967295 ∧
    (∀ q, c.poolLost.get q ≤ 4294967295) ∧ c.snippetCut ≤ 4294967295 ∧ c.linkFramingErrors ≤ 4294967295 ∧
    c.linkBrokenMessages ≤ 4294967295 ∧ c.linkOverrun ≤ 4294967295

end Sys2Proof.Machine
end

