-- ==== Sys2Proof/Certificates/Slice0/Obligations.lean ====
section
/-! DEFINITION. The statements for the provers. A command's statement gives the whole next state as a record update of the state
before, so that it says the result, the frame (every field not named is unchanged) and that the command completes. -/

open Sys2Proof Sys2Proof.Machine

/-! ## The step, the queue of commands, and reset -/

/-- Steps are indivisible and taken first in, first out: the command at the front of the queue is run on the state with the rest
of the queue. (The queue itself is the model's: log 2.) -/
def Obligations.StepTakesFrontCommand : Prop :=
  ∀ (c : Instr) (cs : List Instr) (s : State), s.pending = c :: cs → step s = exec c { s with pending := cs }

/-- No command, not even a reset, changes the queue of commands that wait (log 2). -/
def Obligations.EveryCommandKeepsTheQueue : Prop :=
  ∀ (c : Instr) (s t : State), exec c s = .next t → t.pending = s.pending

/-- RSTR, complete, needs no free reply place and makes no reply: every block at its reset values, REDY with cause COMMAND, the
straps, local time and the receive line as they were, the character being sent still to be finished and the rest of its message
gone. Broken, it is refused SHORT and resets nothing, once a reply has room (R162, R165, R171, R174, R175, R179, R192). -/
def Obligations.RstrResetsThePart : Prop :=
  ∀ (s : State) (m : InMsg), s.resetLow = false → s.flushing = false → s.link.inbox.head? = some m → m.code = 0x01 →
    (m.status = .complete →
      ∃ t, exec .rstr s = .next t ∧ t.atReset ∧ t.resetLow = false ∧ t.rate1 = s.rate1 ∧ t.rate0 = s.rate0 ∧
        t.localTime = s.localTime ∧ t.link.redy = some .command ∧ t.link.current = s.link.current ∧
        t.link.watch = s.link.watch) ∧
    (m.status = .broken →
      (s.link.replies.length < 8 → exec .rstr s = .next (s.popMessage.reply (.rfsd 0x01 .short))) ∧
      (8 ≤ s.link.replies.length → exec .rstr s = .next s))

/-- PIN_RESET (R156, R171, R174, R191, R192) and RESETN_LOW (R174, R191): every block at its reset values, the line idle. The rise
samples the straps, starts local time from 0 and leaves REDY with cause PIN as the only notice; while low no REDY stands. The
receiver waits for the line at mark. While RESETN is low or the supply is out of range nothing is taken: every command but the two
reset events changes nothing (that a command that is not taken answers the same state is log 3). -/
def Obligations.ResetLeavesResetValues : Prop :=
  ((∀ (a b : Bool) (s : State), ∃ t, exec (.pinReset a b) s = .next t ∧ t.atReset ∧ t.resetLow = false ∧ t.rate1 = a ∧
        t.rate0 = b ∧ t.localTime = 0 ∧ t.link.redy = some .pin ∧ t.link.current = none ∧ t.link.watch = .awaitMark) ∧
      ∀ s : State, ∃ t, exec .resetnLow s = .next t ∧ t.atReset ∧ t.resetLow = true ∧ t.rate1 = s.rate1 ∧ t.rate0 = s.rate0 ∧
        t.link.redy = none ∧ t.link.current = none) ∧
  (∀ (c : Instr) (s : State), s.resetLow = true → (∀ a b, c ≠ .pinReset a b) → c ≠ .resetnLow → exec c s = .next s)

/-! ## The sample port (chapter 1) -/

/-- SAMPLE_CHARACTER while searching (R3, R8): only 0xC3 followed at once by 0x3C starts a frame, a second 0xC3 is again a possible
first byte, and while a completed block waits the character is discarded.
While receiving (R3, R4, R5): the tenth byte is the count, and a count of 0 or over 64, or times that do not fit
in 48 bits, drops the frame and counts it in blocks_bad_count; after the second check byte a wrong check drops it and counts it in
blocks_bad_check; any other byte before the end is kept.
The check (R5): a register of ones, each byte most significant bit first, generator 0x1021, the nine digits giving 0x29B1. The layout
(section 9.1, counted from the stream id, the pair being gone): one byte of stream, two of sequence, six of time, the count, then nine
bytes for each triple, Z, N and E signed. -/
def Obligations.FramerFindsAndChecksFrames : Prop :=
  (∀ (s : State) (b : Byte), s.resetLow = false →
      (s.port.waiting ≠ none → exec (.sampleCharacter b) s = .next s) ∧
      ∀ held, s.port.waiting = none → s.port.framer = .searching held →
        exec (.sampleCharacter b) s = .next { s with port := { s.port with
          framer := if held = true ∧ b = 0x3C then .receiving [] else .searching (decide (b = 0xC3)) } }) ∧
  (∀ (s : State) (bs : List Byte) (b : Byte), s.resetLow = false → s.port.waiting = none → s.port.framer = .receiving bs →
      let whole := bs ++ [b]
      let bad := b.toNat = 0 ∨ 64 < b.toNat ∨ 2 ^ 48 - 1 < beVal ((whole.drop 3).take 6) + (b.toNat - 1) * s.period
      (whole.length < 10 ∨ (whole.length = 10 ∧ ¬bad) ∨ (10 < whole.length ∧ whole.length ≠ 12 + 9 * frameCount whole) →
        exec (.sampleCharacter b) s = .next { s with port := { s.port with framer := .receiving whole } }) ∧
      (whole.length = 10 ∧ bad →
        exec (.sampleCharacter b) s = .next { s with
          port := { s.port with framer := .searching false }
          counters := { s.counters with blocksBadCount := min 4294967295 (s.counters.blocksBadCount + 1) } }) ∧
      (whole.length = 12 + 9 * frameCount whole →
        (crc (whole.take (whole.length - 2))).toNat ≠ beVal (whole.drop (whole.length - 2)) →
        exec (.sampleCharacter b) s = .next { s with
          port := { s.port with framer := .searching false }
          counters := { s.counters with blocksBadCheck := min 4294967295 (s.counters.blocksBadCheck + 1) } })) ∧
  (crc [] = 0xFFFF ∧ crc [0x31, 0x32, 0x33, 0x34, 0x35, 0x36, 0x37, 0x38, 0x39] = 0x29B1 ∧
    ∀ (bs : List Byte) (b : Byte), crc (bs ++ [b]) = ([7, 6, 5, 4, 3, 2, 1, 0] : List Nat).foldl
      (fun (reg : BitVec 16) i => if reg.msb ≠ b.getLsbD i then (reg <<< 1) ^^^ 0x1021 else reg <<< 1) (crc bs)) ∧
  (∀ v : Nat, signed24 v = if v < 2 ^ 23 then (v : Int) else (v : Int) - 2 ^ 24) ∧
  ∀ (bs : List Byte),
    let bk := frameBlock bs
    let count (o : Nat) (x : Int) : Prop := x = signed24 (beVal ((bs.drop o).take 3))
    bk.stream = beVal (bs.take 1) ∧ bk.sequence = beVal ((bs.drop 1).take 2) ∧ bk.first = beVal ((bs.drop 3).take 6) ∧
    (∀ b, bs[9]? = some b → frameCount bs = b.toNat) ∧ bk.samples.length = frameCount bs ∧
    ∀ i x, bk.samples[i]? = some x → count (10 + 9 * i) x.z ∧ count (13 + 9 * i) x.n ∧ count (16 + 9 * i) x.e

/-- SAMPLE_CHARACTER completing a checked block (R6 to R9): another stream is counted in blocks_wrong_stream; in STOPPED the block is
counted in blocks_good and discarded; in RUNNING a block with the last sequence number and a time not later than the expected one is
counted in blocks_duplicate; any other block in HUNTING or RUNNING is counted in blocks_good, and waits while the delivering buffer
is busy. The framer searches again in each case.
The first candidate block of HUNTING (R11): RUNNING, INPUT_FOUND raised, the block delivered with its
own times and its first triple DISC, its sequence the last sequence number, the expected next time one period after its last
triple. -/
def Obligations.CheckedBlockMeetsItsTests : Prop :=
  (∀ (s : State) (b : Byte) (bk : Block), s.checksBlock b bk →
      let s0 : State := { s with port := { s.port with framer := .searching false } }
      let dup := s.port.input = .running ∧ s.port.lastSeq = some bk.sequence ∧ ∃ x, s.port.expected = some x ∧ bk.first ≤ x
      (bk.stream ≠ s.port.settings.stream →
        exec (.sampleCharacter b) s = .next { s0 with
          counters := { s.counters with blocksWrongStream := min 4294967295 (s.counters.blocksWrongStream + 1) } }) ∧
      (bk.stream = s.port.settings.stream →
        (s.port.input = .stopped →
          exec (.sampleCharacter b) s = .next { s0 with
            counters := { s.counters with blocksGood := min 4294967295 (s.counters.blocksGood + 1) } }) ∧
        (dup →
          exec (.sampleCharacter b) s = .next { s0 with
            counters := { s.counters with blocksDuplicate := min 4294967295 (s.counters.blocksDuplicate + 1) } }) ∧
        (s.port.input ≠ .stopped → ¬dup → s.port.delivering ≠ [] →
          exec (.sampleCharacter b) s = .next { s0 with
            port := { s0.port with waiting := some bk }
            counters := { s.counters with blocksGood := min 4294967295 (s.counters.blocksGood + 1) } }))) ∧
  (∀ (s : State) (b : Byte) (bk : Block), s.checksBlock b bk → bk.stream = s.port.settings.stream → s.port.input = .hunting →
      s.port.delivering = [] →
      exec (.sampleCharacter b) s = .next { s with
        port := { s.port with
          framer := .searching false, input := .running, delivering := bk.triples s.period true
          lastSeq := some bk.sequence, expected := some (bk.first + bk.samples.length * s.period) }
        counters := { s.counters with blocksGood := min 4294967295 (s.counters.blocksGood + 1) }
        link := { s.link with notices := raiseNotice s.link.notices .inputFound } })

/-- SAMPLE_CHARACTER completing a block in RUNNING that is judged at once (R12 to R15), with d its first time less the expected one:
continuous below half a period either way; k triples missing, filled with copies of the last raw value when k is within the fill
limit; a long gap with INPUT_LOST and the signal GAP beyond it; a backward jump with INPUT_LOST and the signal TIME. -/
def Obligations.RunningBlockIsJudgedByItsTime : Prop :=
  ∀ (s : State) (b : Byte) (bk : Block) (x : Nat), s.checksBlock b bk → bk.stream = s.port.settings.stream →
    s.port.input = .running → s.port.expected = some x → ¬(s.port.lastSeq = some bk.sequence ∧ bk.first ≤ x) →
    s.port.delivering = [] →
    let period := s.period
    let d : Int := (bk.first : Int) - x
    let k := ((d + (period / 2 : Nat)) / period).toNat
    let good : Counters := { s.counters with blocksGood := min 4294967295 (s.counters.blocksGood + 1) }
    let after (c : Counters) (u : State) (ts : List PortTriple) : Host.Outcome State Fault Refusal :=
      .next { u with
        port := { s.port with
          framer := .searching false, delivering := ts, lastSeq := some bk.sequence
          expected := some (bk.first + bk.samples.length * period) }
        counters := c }
    (-(period / 2 : Nat) < d → d < (period / 2 : Nat) →
      exec (.sampleCharacter b) s = after good s (bk.triples period false)) ∧
    ((period / 2 : Nat) ≤ d → 1 ≤ k ∧
      (k ≤ s.port.settings.fillLimit →
        exec (.sampleCharacter b) s =
          after { good with gapsFilled := min 4294967295 (s.counters.gapsFilled + k) } s
            ((List.range k).map (fun i => ⟨s.ring.lastRaw, x + i * period, true, false⟩) ++ bk.triples period false)) ∧
      (s.port.settings.fillLimit < k →
        exec (.sampleCharacter b) s =
          after { good with gapsLong := min 4294967295 (s.counters.gapsLong + 1) }
            ((s.notify .inputLost).raiseSignal .gap) (bk.triples period true))) ∧
    (d ≤ -(period / 2 : Nat) →
      exec (.sampleCharacter b) s =
        after { good with timeBackward := min 4294967295 (s.counters.timeBackward + 1) }
          ((s.notify .inputLost).raiseSignal .time) (bk.triples period true))

/-- CONDITION_TRIPLE (R17, R20 to R22): the next triple is written once every reader has taken the triple in the position it goes to,
and waits otherwise. The first triple of a run, and the next after FLSH, carries DISC; there the offsets take the raw counts and the
conditioned values are 0. Elsewhere the conditioned value is the saturated difference and the offset moves unless the sample is
clipped. (Offsets are unset only before a first run, whose first triple carries DISC.) No block waits, or more triples follow.
Buffer exchange (R8, R12 to R15): when the last triple of the delivering buffer has been written, a waiting block is
judged against it and begins delivery, and the framer is searching: continuous, a short gap filled with copies of the triple just
written, a long gap, or a backward jump. `h` is the state that the same triple leaves when no block waits.
Reading the ring (R22, R23): what was just written reads back, and every triple still held reads as before. -/
def Obligations.ConditionTripleWritesTheRing : Prop :=
  (∀ (s : State) (t : PortTriple) (ts : List PortTriple), s.resetLow = false → s.port.delivering = t :: ts →
      (ts ≠ [] ∨ s.port.waiting = none) →
      let level := s.port.settings.clipLevel
      let clipped (x : Int) : Bool := decide (level ≤ x.natAbs ∨ x = -8388608)
      let cond (m x : Int) : Int := max (-8388608) (min 8388607 (x - m))
      let move (m x : Int) : Int := if clipped x then m else m + (x - m) / 2 ^ s.port.settings.shift
      let after (disc : Bool) (y m : ZNE Int) : Host.Outcome State Fault Refusal :=
        .next { s with
          port := { s.port with delivering := ts, flushNote := false }
          offsets := some m
          ring := ⟨s.ring.written + 1,
            (⟨t.raw, y, ⟨clipped t.raw.z, clipped t.raw.n, clipped t.raw.e⟩, t.filled, disc, t.time⟩ :: s.ring.held).take 4096⟩ }
      ((∀ f ∈ s.feeds, s.ring.written < f.taken + 4096) →
        (t.disc = true ∨ s.port.flushNote = true → exec .conditionTriple s = after true ⟨0, 0, 0⟩ t.raw) ∧
        ∀ m, s.offsets = some m → t.disc = false → s.port.flushNote = false →
          exec .conditionTriple s =
            after false ⟨cond m.z t.raw.z, cond m.n t.raw.n, cond m.e t.raw.e⟩
              ⟨move m.z t.raw.z, move m.n t.raw.n, move m.e t.raw.e⟩) ∧
      ((∃ f ∈ s.feeds, f.taken + 4096 ≤ s.ring.written) → exec .conditionTriple s = .next s)) ∧
  (∀ (s : State) (t : PortTriple) (bk : Block) (x : Nat), s.resetLow = false → s.port.delivering = [t] →
      s.port.waiting = some bk → s.port.input = .running → s.port.expected = some x →
      (∀ f ∈ s.feeds, s.ring.written < f.taken + 4096) → 2 * timeDist bk.first x < s.period →
      ∃ u, exec .conditionTriple s = .next u ∧ u.ring.written = s.ring.written + 1 ∧
        u.ring.held.head?.map Triple.raw = some t.raw ∧
        u.port = { s.port with
          framer := .searching false, waiting := none, flushNote := false, delivering := bk.triples s.period false
          lastSeq := some bk.sequence, expected := some (bk.first + bk.samples.length * s.period) } ∧
        u.counters = s.counters ∧ u.link = s.link) ∧
  (∀ (s : State) (t : PortTriple) (bk : Block) (x : Nat), s.resetLow = false → s.port.delivering = [t] →
      s.port.waiting = some bk → s.port.input = .running → s.port.expected = some x →
      (∀ f ∈ s.feeds, s.ring.written < f.taken + 4096) →
      let half : Int := (s.period / 2 : Nat)
      let d : Int := (bk.first : Int) - x
      let k := ((d + half) / s.period).toNat
      ∃ h : State,
        exec .conditionTriple { s with port := { s.port with framer := .searching false, waiting := none } } = .next h ∧
        let after (u : State) (c : Counters) (ts : List PortTriple) : Host.Outcome State Fault Refusal := .next { u with
          port := { h.port with
            delivering := ts, lastSeq := some bk.sequence, expected := some (bk.first + bk.samples.length * s.period) }
          counters := c }
        (-half < d → d < half → exec .conditionTriple s = after h s.counters (bk.triples s.period false)) ∧
        (half ≤ d → k ≤ s.port.settings.fillLimit → exec .conditionTriple s =
          after h { s.counters with gapsFilled := min 4294967295 (s.counters.gapsFilled + k) }
            ((List.range k).map (fun i => ⟨t.raw, x + i * s.period, true, false⟩) ++ bk.triples s.period false)) ∧
        (half ≤ d → s.port.settings.fillLimit < k → exec .conditionTriple s =
          after ((h.notify .inputLost).raiseSignal .gap)
            { s.counters with gapsLong := min 4294967295 (s.counters.gapsLong + 1) } (bk.triples s.period true)) ∧
        (d ≤ -half → exec .conditionTriple s =
          after ((h.notify .inputLost).raiseSignal .time)
            { s.counters with timeBackward := min 4294967295 (s.counters.timeBackward + 1) } (bk.triples s.period true))) ∧
  ∀ (r : Ring) (t : Triple),
    (r.write t).written = r.written + 1 ∧ (r.write t).held = (t :: r.held).take 4096 ∧ (r.write t).read r.written = t ∧
    ∀ idx, (r.write t).oldest ≤ idx → idx < r.written → (r.write t).read idx = r.read idx

/-- INPT, RUN and STOP (R10, R16, R18): INPT applies its fields in STOPPED and is refused STATE elsewhere; RUN goes from STOPPED to
HUNTING with the last sequence number and expected next time cleared, and is refused STATE elsewhere; STOP discards the frame in
progress and a waiting block, and from HUNTING or RUNNING ends delivery and raises STOP. That STOP also drops a 0xC3 which a searching
framer holds is the model's choice (log 30). -/
def Obligations.InputMessagesDriveTheInputState : Prop :=
  ∀ (s : State) (m : InMsg), s.decodes m →
    (m.code = 0x08 →
      let fs := takeFields [1, 2, 1, 1, 3] m.body
      (s.port.input = .stopped →
        ∃ clamped, exec .inpt s = .next (({ s.popMessage with port := { s.port with settings := {
            stream := fs[0]?.getD s.port.settings.stream
            rate := match fs[1]? with
              | none => s.port.settings.rate
              | some v => if v < 75 then .sps50 else if v < 150 then .sps100 else .sps200
            fillLimit := (fs[2]?.map (min 16)).getD s.port.settings.fillLimit
            shift := (fs[3]?.map fun v => max 4 (min 16 v)).getD s.port.settings.shift
            clipLevel := (fs[4]?.map fun v => max 1 (min 8388607 v)).getD s.port.settings.clipLevel } } }).reply
              (.ackn 0x08 clamped m.isBroken fs.length)) ∧
          (clamped = true ↔ (∃ v, fs[1]? = some v ∧ v ≠ 50 ∧ v ≠ 100 ∧ v ≠ 200) ∨ (∃ v, fs[2]? = some v ∧ 16 < v) ∨
            (∃ v, fs[3]? = some v ∧ (v < 4 ∨ 16 < v)) ∨ ∃ v, fs[4]? = some v ∧ (v < 1 ∨ 8388607 < v))) ∧
      (s.port.input ≠ .stopped → exec .inpt s = .next (s.popMessage.reply (.rfsd 0x08 .state)))) ∧
    (m.code = 0x09 → m.status = .complete →
      (s.port.input = .stopped →
        exec .run s = .next (({ s.popMessage with
          port := { s.port with input := .hunting, lastSeq := none, expected := none } }).reply (.ackn 0x09 false false 0))) ∧
      (s.port.input ≠ .stopped → exec .run s = .next (s.popMessage.reply (.rfsd 0x09 .state)))) ∧
    (m.code = 0x0A → m.status = .complete →
      (s.port.input = .stopped →
        exec .stop s = .next (({ s.popMessage with port := { s.port with framer := .searching false, waiting := none } }).reply
          (.ackn 0x0A false false 0))) ∧
      (s.port.input ≠ .stopped →
        exec .stop s = .next (({ s.popMessage.raiseSignal .stop with
          port := { s.port with framer := .searching false, waiting := none, delivering := [], input := .stopped } }).reply
            (.ackn 0x0A false false 0))))

/-! ## Arithmetic (00_scope) and the detectors (chapter 2) -/

/-- R2: division by a power of two rounds toward minus infinity wherever a level or an offset is stepped, any other division of
non-negative numbers truncates, and the clamp comes after the division. So a level moves from its old value
toward the energy without passing it, and a level above the energy falls by at least 1. -/
def Obligations.FloorDivisionRoundsDown : Prop :=
  (((-7 : Int) / 2 ^ 2 = -2) ∧
    (∀ k old e : Nat, ∃ q : Int, q * 2 ^ k ≤ (e : Int) - old ∧ (e : Int) - old < (q + 1) * 2 ^ k ∧
      (levelStep k old e : Int) = old + q) ∧
    (∀ (a level : Nat) (m x : Int), isClipped level x = false →
      ∃ q : Int, q * 2 ^ a ≤ x - m ∧ x - m < (q + 1) * 2 ^ a ∧ nextOffset a level m x = m + q) ∧
    (∀ S L lmin : Nat, 0 < lmin →
      ∃ q, q * max L lmin ≤ 16 * S ∧ 16 * S < (q + 1) * max L lmin ∧ levelRatio S L lmin = min 4095 q) ∧
    (∀ peak reference lmin : Nat, 0 < lmin →
      ∃ q, q * max reference lmin ≤ 16 * peak ∧ 16 * peak < (q + 1) * max reference lmin ∧
        snrOf peak reference lmin = min 4095 q) ∧
    ∀ H V : Nat, ∃ q, q * max V 1 ≤ 16 * H ∧ 16 * H < (q + 1) * max V 1 ∧ hvOf H V = min 4095 q) ∧
  (∀ k old e : Nat, (old ≤ e → old ≤ levelStep k old e ∧ levelStep k old e ≤ e) ∧
      (e < old → e ≤ levelStep k old e ∧ levelStep k old e < old))

/-- R25: the two energies, their bound of 2^46, the worked value, that marks play no part, and the energy 0 of the first triple of a
run. -/
def Obligations.EnergyOfATriple : Prop :=
  (∀ t : Triple, (t.energy .v : Int) = t.cond.z ^ 2 ∧ (t.energy .h : Int) = (t.cond.n ^ 2 + t.cond.e ^ 2) / 2) ∧
  (∀ (t : Triple) (d : Det), isCount t.cond.z → isCount t.cond.n → isCount t.cond.e → t.energy d ≤ 2 ^ 46) ∧
  (∀ t : Triple, t.cond.n = -700 → t.cond.e = 500 → t.energy .h = 370000) ∧
  (∀ (t u : Triple) (d : Det), t.cond = u.cond → t.energy d = u.energy d) ∧
  ∀ (p : InputSettings) (m : Option (ZNE Int)) (x : PortTriple) (d : Det), (conditionTriple p m x true).energy d = 0

/-- DETECTOR_TRIPLE in QUIET (R25 to R27, R30, R31, R38): both levels are updated and the ratio computed; at or above the on level the
detector triggers: it opens an episode on this triple with L frozen, Sref at S, length 1, and asks for a PRIMARY entry, confirmed when
the min duration is 1.
In WARMUP and RECOVERY (R29, R37): the first triple of a warm-up seeds both levels, later ones update them; the
count gains one, and when it reaches 2^kl or the recovery length the end falls due (made by WARMUP_END or RECOVERY_END: log 4). -/
def Obligations.LevelsAreUpdatedByState : Prop :=
  (∀ (s : State) (d : Det), s.resetLow = false → (s.det d).state = .quiet → (s.det d).due = none →
      (s.det d).feed.tripleReady s.ring = true →
      let x := s.det d
      let t := s.ring.read x.feed.taken
      let e := t.energy d
      let S := levelStep x.settings.ks x.short e
      let L := levelStep x.settings.kl x.long e
      let r := min 4095 (16 * S / max L x.settings.lmin)
      let here : Ref := ⟨x.feed.taken, t.time⟩
      let confirmed := decide (x.settings.minDuration ≤ 1)
      let y : Detector := { x with feed := { x.feed with taken := x.feed.taken + 1 }, short := S, long := L, ratio := r }
      (r < x.settings.onLevel → exec (.detectorTriple d) s = .next (s.setDet d y)) ∧
      (x.settings.onLevel ≤ r → exec (.detectorTriple d) s = .next (s.setDet d { y with
        state := .triggered
        episode := some ⟨x.nextEpisode, here, L, S, 1, 0, confirmed⟩
        nextEpisode := if x.nextEpisode < 65535 then x.nextEpisode + 1 else 1
        requests := x.requests ++ [.createPrimary x.nextEpisode here L confirmed] }))) ∧
  (∀ (s : State) (d : Det), s.resetLow = false → (s.det d).due = none → (s.det d).feed.tripleReady s.ring = true →
      let x := s.det d
      let p := x.settings
      let e := (s.ring.read x.feed.taken).energy d
      let leveled (S L : Nat) : Detector := { x with
        feed := { x.feed with taken := x.feed.taken + 1 }, short := S, long := L, ratio := min 4095 (16 * S / max L p.lmin) }
      let updated := leveled (levelStep p.ks x.short e) (levelStep p.kl x.long e)
      (x.state = .warmup →
        exec (.detectorTriple d) s = .next (s.setDet d { (if x.warmupCount = 0 then leveled e e else updated) with
          warmupCount := x.warmupCount + 1
          due := if 2 ^ p.kl ≤ x.warmupCount + 1 then some .warmupEnd else none })) ∧
      (x.state = .recovery →
        exec (.detectorTriple d) s = .next (s.setDet d { updated with
          recoveryCount := x.recoveryCount + 1
          due := if p.recovery ≤ x.recoveryCount + 1 then some .recoveryEnd else none })))

/-- DETECTOR_TRIPLE in TRIGGERED (R32, R33, R36, R38): S is updated and L frozen; below the off level the episode is released, with a
cancel, a confirm or no request; else the forced release or the confirmation falls due (made by the command of that name: log 4); else
the secondary test is made. -/
def Obligations.TriggeredTripleReleasesOrGoesOn : Prop :=
  ∀ (s : State) (d : Det) (ep : Episode), s.resetLow = false → (s.det d).state = .triggered → (s.det d).episode = some ep →
    (s.det d).due = none → (s.det d).feed.tripleReady s.ring = true →
    let x := s.det d
    let p := x.settings
    let t := s.ring.read x.feed.taken
    let S := levelStep p.ks x.short (t.energy d)
    let r := min 4095 (16 * S / max x.long p.lmin)
    let ep' : Episode := { ep with length := ep.length + 1, since := ep.since + 1 }
    let y : Detector := { x with feed := { x.feed with taken := x.feed.taken + 1 }, short := S, ratio := r }
    let after (z : Detector) : Host.Outcome State Fault Refusal := .next (s.setDet d z)
    (r < p.offLevel →
      exec (.detectorTriple d) s = after { y with
        state := if p.recovery = 0 then .quiet else .recovery
        recoveryCount := 0, episode := none
        requests := x.requests ++
          (if ep.confirmed then [] else if ep.length + 1 < p.minDuration then [.cancel ep.number] else [.confirm ep.number]) }) ∧
    (p.offLevel ≤ r → p.maxDuration ≤ ep.length + 1 →
      exec (.detectorTriple d) s = after { y with episode := some ep', due := some .forcedRelease }) ∧
    (p.offLevel ≤ r → ep.length + 1 < p.maxDuration → ep.confirmed = false → p.minDuration ≤ ep.length + 1 →
      exec (.detectorTriple d) s =
        after { y with episode := some ep', due := some (.confirmation ⟨x.feed.taken, t.time⟩) }) ∧
    (p.offLevel ≤ r → ep.length + 1 < p.maxDuration → (ep.confirmed = true ∨ ep.length + 1 < p.minDuration) →
      (ep.sref * p.k2 ≤ 16 * S ∧ p.separation ≤ ep.since + 1 →
        exec (.detectorTriple d) s = after { y with
          episode := some { ep' with sref := S, since := 0 }
          requests := x.requests ++ [.createSecondary ep.number ⟨x.feed.taken, t.time⟩ ep.sref ep.confirmed] }) ∧
      (¬(ep.sref * p.k2 ≤ 16 * S ∧ p.separation ≤ ep.since + 1) →
        exec (.detectorTriple d) s = after { y with episode := some ep' }))

/-- CONFIRMATION, FORCED_RELEASE, WARMUP_END, RECOVERY_END when they are due (R29, R32, R34 to R37, R38): the episode is confirmed with
a confirm request and the triple's secondary test follows; the entries are to be marked LONG, L takes S and the episode closes; the
detector enters QUIET. Where one is not due it changes nothing (log 3). -/
def Obligations.SecondHalfOfATriplesTreatment : Prop :=
  ∀ (s : State) (d : Det), s.resetLow = false →
    let x := s.det d
    let p := x.settings
    let after (z : Detector) : Host.Outcome State Fault Refusal := .next (s.setDet d z)
    (∀ ep here, x.due = some (.confirmation here) → x.episode = some ep →
      let y : Detector := { x with due := none, requests := x.requests ++ [.confirm ep.number] }
      (ep.sref * p.k2 ≤ 16 * x.short ∧ p.separation ≤ ep.since →
        exec (.confirmation d) s = after { y with
          episode := some { ep with confirmed := true, sref := x.short, since := 0 }
          requests := x.requests ++ [.confirm ep.number, .createSecondary ep.number here ep.sref true] }) ∧
      (¬(ep.sref * p.k2 ≤ 16 * x.short ∧ p.separation ≤ ep.since) →
        exec (.confirmation d) s = after { y with episode := some { ep with confirmed := true } })) ∧
    (∀ ep, x.due = some .forcedRelease → x.episode = some ep →
      exec (.forcedRelease d) s = after { x with
        due := none, long := x.short, requests := x.requests ++ [.markLong ep.number], episode := none, recoveryCount := 0
        state := if p.recovery = 0 then .quiet else .recovery }) ∧
    (x.due = some .warmupEnd → exec (.warmupEnd d) s = after { x with due := none, state := .quiet }) ∧
    (x.due = some .recoveryEnd → exec (.recoveryEnd d) s = after { x with due := none, state := .quiet }) ∧
    ((∀ here, x.due ≠ some (.confirmation here)) → exec (.confirmation d) s = .next s) ∧
    (x.due ≠ some .forcedRelease → exec (.forcedRelease d) s = .next s) ∧
    (x.due ≠ some .warmupEnd → exec (.warmupEnd d) s = .next s) ∧
    (x.due ≠ some .recoveryEnd → exec (.recoveryEnd d) s = .next s)

/-- R28 at the steps: in OFF a detector takes triples without treating them and signals without leaving OFF, and no command but DETS and
the resets takes a detector into OFF or out of it. (That its ratio is 0 there is part of the detectors' invariant.) -/
def Obligations.OffDetectorTreatsNothing : Prop :=
  (∀ (s : State) (d : Det), s.resetLow = false → (s.det d).state = .off → (s.det d).due = none →
    let x := s.det d
    (x.feed.tripleReady s.ring = true →
      exec (.detectorTriple d) s = .next (s.setDet d { x with feed := { x.feed with taken := x.feed.taken + 1 } })) ∧
    (∀ c, x.feed.signalReady = some c → c ≠ .flush →
      exec (.detectorDiscontinuity d) s =
        .next (s.setDet d { x with feed := { x.feed with signals := x.feed.signals.tail } })) ∧
    (x.feed.signalReady = some .flush →
      exec (.detectorFlush d) s =
        .next (s.setDet d { x with feed := { x.feed with signals := x.feed.signals.tail } }).finishFlush)) ∧
  ∀ (c : Instr) (s t : State) (d : Det), (s.det d).coherent → exec c s = .next t → c ≠ .dets → c ≠ .rstr → c ≠ .resetnLow →
    (∀ a b, c ≠ .pinReset a b) → ((t.det d).state = .off ↔ (s.det d).state = .off)

/-- DETECTOR_DISCONTINUITY and DETECTOR_FLUSH of a detector that is not OFF (R29, R47, R48): WARMUP with its count and ratio at 0, the
episode closed without a request; levels, settings and the next episode number stand. The last block to take FLUSH lets the ACKN be
placed (R180). -/
def Obligations.SignalRestartsTheWarmup : Prop :=
  ∀ (s : State) (d : Det) (c : Cause), s.resetLow = false → (s.det d).state ≠ .off → (s.det d).due = none →
    (s.det d).feed.signalReady = some c →
    let x := s.det d
    let u := s.setDet d { x with
      feed := { x.feed with signals := x.feed.signals.tail }
      state := .warmup, warmupCount := 0, recoveryCount := 0, ratio := 0, episode := none }
    (c ≠ .flush → exec (.detectorDiscontinuity d) s = .next u) ∧
    (c = .flush → exec (.detectorFlush d) s = .next u.finishFlush)

/-- DETS (R39 to R43): every selected detector stores each field that arrived, at its nearest limit, then checks its pairs; the reply
counts the selector, and is CLAMPED exactly when a field lay outside its range or a selected detector's pair was adjusted; without a
selector nothing applies. Here the message leaves every selected detector's state as it is: it does not
disable, does not enable one that is OFF, and changes no shift of one that is not OFF. That a kl which the adjustment takes back to the
value it had before is no change, so that the detector does not restart, is the model's reading of R40 and R41 (log 34). -/
def Obligations.DetsStoresTheSelectedSettings : Prop :=
  ∀ (s : State) (m : InMsg), s.decodes m → m.code = 0x0C →
    let fs := takeFields [1, 1, 1, 1, 4, 2, 2, 1, 2, 1, 2, 2] m.body
    let selected (d : Det) : Prop := ∃ v, fs[0]? = some v ∧ (v = (match d with | .v => 0 | .h => 1) ∨ 2 ≤ v)
    let put (i lo hi old : Nat) : Nat := (fs[i]?.map fun v => max lo (min hi v)).getD old
    let new (p : DetSettings) : DetSettings :=
      let on := put 5 20 4095 p.onLevel
      let off := put 6 16 4094 p.offLevel
      let ks := put 2 1 8 p.ks
      { enabled := (fs[1]?.map fun v => decide (v ≠ 0)).getD p.enabled
        ks := ks
        kl := max (put 3 4 14 p.kl) (ks + 3)
        lmin := put 4 1 4294967295 p.lmin
        onLevel := on
        offLevel := if on ≤ off then on - 1 else off
        minDuration := put 7 1 255 p.minDuration
        maxDuration := put 8 1 65535 p.maxDuration
        k2 := put 9 24 255 p.k2
        separation := put 10 1 4095 p.separation
        recovery := put 11 0 4095 p.recovery }
    (∀ d, selected d → (s.det d).due = none ∧ fs[1]? ≠ some 0 ∧
      ((s.det d).state = .off → fs[1]? = none) ∧
      ((s.det d).state ≠ .off →
        (new (s.det d).settings).ks = (s.det d).settings.ks ∧ (new (s.det d).settings).kl = (s.det d).settings.kl)) →
    ∃ (v h : Detector) (clamped : Bool),
      exec .dets s = .next (({ s.popMessage with detV := v, detH := h }).reply (.ackn 0x0C clamped m.isBroken fs.length)) ∧
      (clamped = true ↔ s.detsClamps fs) ∧
      (selected .v → v = { s.detV with settings := new s.detV.settings }) ∧ (¬selected .v → v = s.detV) ∧
      (selected .h → h = { s.detH with settings := new s.detH.settings }) ∧ (¬selected .h → h = s.detH)

/-- R45: a DETS that enables a detector in OFF sends it to WARMUP with its count and ratio at 0, and the next triple it treats seeds both
levels; one that enables a detector in any other state, and changes no shift, leaves its state as it is.
DETS that disables a detector or changes a shift of one that is not OFF (R41, R44, R46, R38), by the state the detector is in after
the settings of the message are stored: OFF at once, or WARMUP with its count and ratio at 0. An unconfirmed episode in progress asks for
cancellation or confirmation by its length against the min duration now in force.
The command DETS does this, and no less, to every selected detector (R39 to R46), once each stands between two triples (log 25); its
ACKN is CLAMPED exactly when a field lay outside its range or a selected detector's pair was adjusted. That a kl which the adjustment
takes back to the value it had before is no change is the model's reading of R40 and R41 (log 34). -/
def Obligations.DetsChangesTheDetectorState : Prop :=
  (∀ (s : State) (d : Det) (m : InMsg), s.decodes m → m.code = 0x0C → s.detV.due = none → s.detH.due = none →
      let fs := takeFields [1, 1, 1, 1, 4, 2, 2, 1, 2, 1, 2, 2] m.body
      ∀ v, fs[0]? = some v → (v = (match d with | .v => 0 | .h => 1) ∨ 2 ≤ v) → (∃ w, fs[1]? = some w ∧ w ≠ 0) →
      ∃ t, exec .dets s = .next t ∧
        ((s.det d).state = .off →
          (t.det d).state = .warmup ∧ (t.det d).warmupCount = 0 ∧ (t.det d).ratio = 0 ∧
          ∀ u : State, u.resetLow = false → u.det d = t.det d → (u.det d).feed.tripleReady u.ring = true →
            ∃ w, exec (.detectorTriple d) u = .next w ∧
              (w.det d).short = (u.ring.read (u.det d).feed.taken).energy d ∧
              (w.det d).long = (u.ring.read (u.det d).feed.taken).energy d) ∧
        ((s.det d).state ≠ .off → (t.det d).settings.ks = (s.det d).settings.ks →
          (t.det d).settings.kl = (s.det d).settings.kl → (t.det d).state = (s.det d).state)) ∧
  (∀ (x : Detector) (fs : List Nat),
      let p := (x.settings.store fs).pairs
      let ending : List DetRequest := match x.state, x.episode with
        | .triggered, some ep =>
          if ep.confirmed then [] else if ep.length < p.minDuration then [.cancel ep.number] else [.confirm ep.number]
        | _, _ => []
      (fs[1]? = some 0 → x.state = .off → x.takeDets fs = { x with settings := p }) ∧
      (fs[1]? = some 0 → x.state ≠ .off → x.takeDets fs = { x with
        settings := p, state := .off, ratio := 0, warmupCount := 0, recoveryCount := 0, episode := none
        requests := x.requests ++ ending }) ∧
      (fs[1]? ≠ some 0 → x.state ≠ .off → (p.ks ≠ x.settings.ks ∨ p.kl ≠ x.settings.kl) → x.takeDets fs = { x with
        settings := p, state := .warmup, ratio := 0, warmupCount := 0, recoveryCount := 0, episode := none, due := none
        requests := x.requests ++ ending }) ∧
      (x.state = .off → fs[1]? = none → x.takeDets fs = { x with settings := p }) ∧
      (x.state = .off → (∃ w, fs[1]? = some w ∧ w ≠ 0) → x.takeDets fs = { x with
        settings := p, state := .warmup, ratio := 0, warmupCount := 0, recoveryCount := 0, episode := none, due := none }) ∧
      (fs[1]? ≠ some 0 → x.state ≠ .off → p.ks = x.settings.ks → p.kl = x.settings.kl →
        x.takeDets fs = { x with settings := p })) ∧
  ∀ (s : State) (m : InMsg), s.decodes m → m.code = 0x0C →
    let fs := takeFields [1, 1, 1, 1, 4, 2, 2, 1, 2, 1, 2, 2] m.body
    let selected (d : Det) : Prop := ∃ v, fs[0]? = some v ∧ (v = (match d with | .v => 0 | .h => 1) ∨ 2 ≤ v)
    (∀ d, selected d → (s.det d).due = none) →
    ∃ (v h : Detector) (clamped : Bool),
      exec .dets s = .next (({ s.popMessage with detV := v, detH := h }).reply (.ackn 0x0C clamped m.isBroken fs.length)) ∧
      (clamped = true ↔ s.detsClamps fs) ∧
      (selected .v → v = s.detV.takeDets fs) ∧ (¬selected .v → v = s.detV) ∧
      (selected .h → h = s.detH.takeDets fs) ∧ (¬selected .h → h = s.detH)

/-! ## The Onset Unit (chapter 3) -/

/-- The onset search (R54 to R57): with T the threshold and `floor` the first triple number the last onset allows, the scan reads a
stretch of triples ending at the trigger. It crosses no DISC triple and stays within the look-back, the ring and the floor. The onset is
the oldest triple read that is not FILLED and has energy at or above T, or the trigger if there is none. EDGE is clear exactly when the
stretch's oldest Q triples, and no Q consecutive ones before, are below T and follow a triple at or above it; when it is set, the
stretch ends at a bound (the look-back, a DISC triple, the oldest held, the triple after the last onset), or nothing in it reached T. -/
def Obligations.OnsetSearchFindsTheOldestRise : Prop :=
  ∀ (r : Ring) (d : Det) (T : Nat) (p : OnsetSettings) (floor : Nat) (trigger : Ref), 1 ≤ p.runLength →
    let hit (i : Nat) : Prop := (r.read i).filled = false ∧ T ≤ (r.read i).energy d
    let o := (onsetSearch r d T p floor trigger).1
    let edge := (onsetSearch r d T p floor trigger).2
    ∃ stop, stop ≤ trigger.idx ∧ trigger.idx ≤ stop + p.lookBack ∧
      (r.oldest ≤ trigger.idx → r.oldest ≤ stop) ∧ (floor ≤ trigger.idx → floor ≤ stop) ∧
      (∀ i, stop < i → i ≤ trigger.idx → (r.read i).disc = false) ∧
      o.idx ≤ trigger.idx ∧ stop ≤ o.idx ∧ (o = trigger ∨ o.time = (r.read o.idx).time) ∧
      (∀ i, stop ≤ i → i < o.idx → ¬hit i) ∧
      ((∃ i, stop ≤ i ∧ i ≤ trigger.idx ∧ hit i) → hit o.idx) ∧
      ((∀ i, stop ≤ i → i ≤ trigger.idx → ¬hit i) → o = trigger ∧ edge = true) ∧
      (edge = false → o.idx = stop + p.runLength ∧ hit o.idx) ∧
      (edge = true → (∃ i, stop ≤ i ∧ i ≤ trigger.idx ∧ hit i) → o.idx < stop + p.runLength) ∧
      (∀ j, stop < j → j + p.runLength ≤ trigger.idx + 1 → ∃ i, j ≤ i ∧ i < j + p.runLength ∧ hit i) ∧
      (edge = true → stop ≤ max (trigger.idx - p.lookBack) (max r.oldest floor) ∨ (r.read stop).disc = true ∨
        ((∀ i, stop ≤ i → i ≤ trigger.idx → ¬hit i) ∧ stop + p.runLength = trigger.idx + 1))

/-- The best candidate of a list, as every choice of the part is made (R71, R72, R103, R104, R106, R107, R109): a candidate with the
greatest score, a tie going to the earlier; none when there is no candidate.
The choices: the pending entry of a kind whose onset coincides, within c periods, and is nearest; the recent pick of a kind, the
nearest, a tie going to the one placed later (R71, R72); the event whose P lies within the P duplicate tolerance, the nearest (R103);
the event without a P whose S follows in the S-P range, the latest S (R104); the event with a P and no S whose P precedes in the S-P
range, the latest P (R106); the event whose span with the X join window holds the onset, the latest first onset (R107). -/
def Obligations.BestCandidateTieGoesToTheEarlier : Prop :=
  (∀ {α : Type} (score : α → Option Int) (l : List α),
    (best score l = none ↔ ∀ a ∈ l, score a = none) ∧
    ∀ i, best score l = some i ↔
      ∃ a v, l[i]? = some a ∧ score a = some v ∧
        ∀ j b w, l[j]? = some b → score b = some w → w ≤ v ∧ (j < i → w < v)) ∧
  (∀ k, (PickKind.ofDetector k = true ↔ k = .primary ∨ k = .secondary) ∧ (PickKind.ofSignature k = true ↔ k = .signature)) ∧
  ∀ (s : State) (t : Nat),
    let c := s.onset.onst.tolerance * s.period
    let p := s.assoc.settings
    let inRange (a b : Nat) : Prop := a + p.spMin * s.period ≤ b ∧ b ≤ a + p.spMax * s.period
    let onset (m : Option Member) : Int := m.elim 0 fun x => x.onset
    (∀ isKind, isBest s.onset.table (fun e => isKind e.kind = true ∧ timeDist e.onset.time t ≤ c)
      (fun e => -(timeDist e.onset.time t : Int)) (s.coincidentEntry isKind t)) ∧
    (∀ isKind, ∃ o, isBest s.assoc.recent.reverse (fun x => isKind x.kind = true ∧ timeDist x.onset t ≤ c)
      (fun x => -(timeDist x.onset t : Int)) o ∧
      s.coincidentPick isKind t = o.bind fun i => (s.assoc.recent.reverse[i]?).map RecentPick.number) ∧
    isBest s.assoc.events (fun ev => ∃ m, ev.p = some m ∧ timeDist m.onset t ≤ p.pTolerance * s.period)
      (fun ev => -|onset ev.p - t|) (s.duplicateOf t) ∧
    isBest s.assoc.events (fun ev => ev.p = none ∧ ∃ m, ev.s = some m ∧ inRange t m.onset) (fun ev => onset ev.s) (s.adopter t) ∧
    isBest s.assoc.events (fun ev => ev.s = none ∧ ∃ m, ev.p = some m ∧ inRange m.onset t) (fun ev => onset ev.p) (s.sJoin t) ∧
    isBest s.assoc.events (fun ev => ev.first ≤ t ∧ t ≤ ev.last + p.xWindow * s.period) (fun ev => (ev.first : Int)) (s.xJoin t)

/-- What a detector's create request makes (R51, R52, R54, R57, R59): an entry of its kind, source, episode, trigger, reference and
confirmed mark, with T and M from the settings in force and the onset of the search, bounded for a SECONDARY by the episode's last onset,
that has measured, in order, the triples held from its onset on, up to M of them and none of another run (what measuring one does has a
statement of its own). -/
def Obligations.DetectorEntryCarriesItsRequest : Prop :=
  ∀ (s : State) (d : Det) (kind : PickKind) (episode reference : Nat) (trigger : Ref) (confirmed late : Bool),
    let e := s.detectorEntry d kind episode trigger reference confirmed late
    let T := reference * s.onset.onst.factor / 16
    let floor := match kind, s.onset.last d with
      | .secondary, some l => if l.episode = episode then l.onset.idx + 1 else 0
      | _, _ => 0
    e.kind = kind ∧ e.source = .detector d ∧ e.episode = some ⟨d, episode⟩ ∧ e.trigger = trigger ∧
      e.reference = reference ∧ e.threshold = T ∧ e.measureLen = s.onset.onst.measureLen ∧ e.confirmed = confirmed ∧
      (e.onset, e.edge) = onsetSearch s.ring d T s.onset.onst floor trigger ∧
      e.long = false ∧ e.inverted = false ∧ e.confirmedBy = none ∧ e.score = none ∧ e.coincident = none ∧ e.label = none ∧
      e.measured ≤ e.measureLen ∧
      (∀ k, k < e.measured → e.onset.idx + k < s.measureLimit late ∧ (k = 0 ∨ (s.ring.read (e.onset.idx + k)).disc = false)) ∧
      (e.measured = e.measureLen ∨ s.measureLimit late ≤ e.onset.idx + e.measured ∨
        (e.measured ≠ 0 ∧ (s.ring.read (e.onset.idx + e.measured)).disc = true)) ∧
      e.vSum = ((List.range e.measured).map fun k => (s.ring.read (e.onset.idx + k)).cond.z.natAbs ^ 2).sum ∧
      e = (List.range e.measured).foldl (fun x k => x.measure (s.ring.read (e.onset.idx + k)))
        { kind := kind, source := .detector d, episode := some ⟨d, episode⟩, trigger := trigger, onset := e.onset
          reference := reference, threshold := T, measureLen := s.onset.onst.measureLen, measured := 0
          peak := none, vSum := 0, hSum := 0, work := ⟨0, 0, none⟩, clipped := false, filled := false, confirmed := confirmed
          edge := e.edge, long := false, inverted := false, confirmedBy := none, score := none, coincident := none, label := none }

/-- CREATE_PRIMARY and CREATE_SECONDARY with room in the table and a trigger after the boundary (R52, R57, R66, R72): the onset is
recorded as the episode's last; the entry absorbs the nearest coinciding pending SIGNATURE entry, or else names the nearest coinciding
SIGNATURE pick; then it goes at the end of the table, or completes at once when it is measured and confirmed. The trigger was written
before every signal the Onset Unit has still to take; a request whose trigger was not has to wait, which the late requests' statement
says (R17). -/
def Obligations.CreateRequestMakesAnEntry : Prop :=
  ∀ (s : State) (d : Det) (c : Instr) (kind : PickKind) (episode reference : Nat) (trigger : Ref) (confirmed : Bool)
    (rest : List DetRequest), s.resetLow = false →
    ((c = .createPrimary d ∧ kind = .primary ∧
        (s.det d).requests = .createPrimary episode trigger reference confirmed :: rest) ∨
      (c = .createSecondary d ∧ kind = .secondary ∧
        (s.det d).requests = .createSecondary episode trigger reference confirmed :: rest)) →
    s.onset.lateCause trigger = none → s.onset.table.length < 16 →
    (∀ g, s.onset.feed.signals.head? = some g → trigger.idx < g.after) →
    let s1 := s.setDet d { s.det d with requests := rest }
    let e := s1.detectorEntry d kind episode trigger reference confirmed false
    let s2 : State := { s1 with onset := s.onset.setLast d ⟨episode, e.onset⟩ }
    let placed (u : State) (e' : Entry) : Host.Outcome State Fault Refusal :=
      .next (if e'.measured = e'.measureLen ∧ e'.confirmed = true then u.completeOne none e'
        else { u with onset := { u.onset with table := u.onset.table ++ [e'] } })
    (s2.coincidentEntry PickKind.ofSignature e.onset.time = none →
      exec c s = placed s2 { e with coincident := s2.coincidentPick PickKind.ofSignature e.onset.time }) ∧
    ∀ i g n, s2.coincidentEntry PickKind.ofSignature e.onset.time = some i → s.onset.table[i]? = some g → g.source = .slot n →
      exec c s = placed
        { s2 with
          onset := { s2.onset with table := s.onset.table.eraseIdx i }
          counters := { s.counters with picksMerged := min 4294967295 (s.counters.picksMerged + 1) } }
        { e with confirmedBy := some n, score := g.score, inverted := g.inverted }

/-- CREATE_SIGNATURE with room in the table and a trigger after the boundary (R52, R58, R66, R71): the match is merged into the nearest
coinciding pending detector entry, which keeps an earlier slot and score; otherwise the entry of the request is made, naming the nearest
coinciding detector pick, and goes at the end of the table, or completes at once when it is measured.
The entry of a request (R52, R58, R59): its onset, score and label are the request's, it is confirmed, its reference is Detector V's long
level, and it has measured, in order, the triples held from its onset on, up to M of them and none of another run. The trigger was written
before every signal the Onset Unit has still to take; a request whose trigger was not has to wait, which the late requests' statement
says (R17). -/
def Obligations.SignatureRequestMergesOrMakesAnEntry : Prop :=
  (∀ (s : State) (q : SigRequest) (rest : List SigRequest), s.resetLow = false → s.bank.requests = q :: rest →
    s.onset.lateCause q.trigger = none → s.onset.table.length < 16 →
    (∀ g, s.onset.feed.signals.head? = some g → q.trigger.idx < g.after) →
    let s1 : State := { s with bank := { s.bank with requests := rest } }
    (∀ i, s.coincidentEntry PickKind.ofDetector q.onset.time = some i →
      exec .createSignature s = .next { s1 with
        onset := { s.onset with table := s.onset.table.modify i fun e =>
          if e.confirmedBy = none then
            { e with confirmedBy := some q.slot, score := some q.score, inverted := e.inverted || q.inverted }
          else e }
        counters := { s.counters with picksMerged := min 4294967295 (s.counters.picksMerged + 1) } }) ∧
    (s.coincidentEntry PickKind.ofDetector q.onset.time = none →
      let e : Entry := { s.signatureEntry q false with coincident := s.coincidentPick PickKind.ofDetector q.onset.time }
      exec .createSignature s = .next (if e.measured = e.measureLen then s1.completeOne none e
        else { s1 with onset := { s.onset with table := s.onset.table ++ [e] } }))) ∧
  ∀ (s : State) (q : SigRequest) (late : Bool),
    let M := s.onset.onst.measureLen
    let e := s.signatureEntry q late
    let limit := s.measureLimit late
    let n := e.measured
    e = (List.range n).foldl (fun x k => x.measure (s.ring.read (q.onset.idx + k)))
      { kind := .signature, source := .slot q.slot, episode := none, trigger := q.trigger, onset := q.onset
        reference := s.detV.long, threshold := s.detV.long * s.onset.onst.factor / 16, measureLen := M, measured := 0
        peak := none, vSum := 0, hSum := 0, work := ⟨0, 0, none⟩, clipped := false, filled := false, confirmed := true
        edge := false, long := false, inverted := q.inverted, confirmedBy := none, score := some q.score
        coincident := none, label := some q.label } ∧
    n ≤ M ∧
    (∀ k, k < n → q.onset.idx + k < limit ∧ (k = 0 ∨ (s.ring.read (q.onset.idx + k)).disc = false)) ∧
    (n = M ∨ limit ≤ q.onset.idx + n ∨ (n ≠ 0 ∧ (s.ring.read (q.onset.idx + n)).disc = true))

/-- Create requests that make no pending entry (R52, R53, R77): late after FLUSH they count in pending_flushed whatever the table holds;
otherwise a full table counts them in pick_overrun; otherwise late after GAP, TIME or STOP the entry completes at once with that cause,
measured up to the boundary and untested for coincidence. The request leaves its channel in each case.
A request is late when its trigger was written no later than the boundary triple, and its cause is the boundary's; it may measure the
triples up to the boundary, any other those written (R59, R77).
A request on a triple written after a signal that the Onset Unit has still to take waits in its channel: the unit treats no triple of the
new run before that signal (R17; that the request waits there whole is the model's, log 36). -/
def Obligations.LateAndOverrunRequests : Prop :=
  (∀ (s : State) (trigger : Ref) (c : Cause),
    (s.onset.lateCause trigger = some c ↔ ∃ b, s.onset.boundary = some b ∧ trigger.idx < b.count ∧ b.cause = c) ∧
    (∀ b, s.onset.boundary = some b → s.measureLimit true = b.count) ∧ s.measureLimit false = s.ring.written) ∧
  (∀ (s : State) (g : Signal), s.onset.feed.signals.head? = some g →
      (∀ (d : Det) (episode reference : Nat) (trigger : Ref) (confirmed : Bool) (rest : List DetRequest), g.after ≤ trigger.idx →
        ((s.det d).requests = .createPrimary episode trigger reference confirmed :: rest →
          exec (.createPrimary d) s = .next s) ∧
        ((s.det d).requests = .createSecondary episode trigger reference confirmed :: rest →
          exec (.createSecondary d) s = .next s)) ∧
      ∀ q rest, s.bank.requests = q :: rest → g.after ≤ q.trigger.idx → exec .createSignature s = .next s) ∧
  ∀ (s : State), s.resetLow = false →
    let flushed (u : State) : Host.Outcome State Fault Refusal := .next { u with
      counters := { s.counters with pendingFlushed := min 4294967295 (s.counters.pendingFlushed + 1) } }
    let overrun (u : State) : Host.Outcome State Fault Refusal := .next { u with
      counters := { s.counters with pickOverrun := min 4294967295 (s.counters.pickOverrun + 1) } }
    (∀ (d : Det) (kind : PickKind) (episode reference : Nat) (trigger : Ref) (confirmed : Bool) (rest : List DetRequest)
        (c : Instr),
      ((c = .createPrimary d ∧ kind = .primary ∧
          (s.det d).requests = .createPrimary episode trigger reference confirmed :: rest) ∨
        (c = .createSecondary d ∧ kind = .secondary ∧
          (s.det d).requests = .createSecondary episode trigger reference confirmed :: rest)) →
      (∀ g, s.onset.feed.signals.head? = some g → trigger.idx < g.after) →
      let s1 := s.setDet d { s.det d with requests := rest }
      (s.onset.lateCause trigger = some .flush → exec c s = flushed s1) ∧
      (s.onset.lateCause trigger ≠ some .flush → 16 ≤ s.onset.table.length → exec c s = overrun s1) ∧
      ∀ cause, s.onset.lateCause trigger = some cause → cause ≠ .flush → s.onset.table.length < 16 →
        let e := s1.detectorEntry d kind episode trigger reference confirmed true
        exec c s =
          .next (({ s1 with onset := s.onset.setLast d ⟨episode, e.onset⟩ } : State).completeOne (some cause) e)) ∧
    ∀ (q : SigRequest) (rest : List SigRequest), s.bank.requests = q :: rest →
      (∀ g, s.onset.feed.signals.head? = some g → q.trigger.idx < g.after) →
      let s1 : State := { s with bank := { s.bank with requests := rest } }
      (s.onset.lateCause q.trigger = some .flush → exec .createSignature s = flushed s1) ∧
      (s.onset.lateCause q.trigger ≠ some .flush → 16 ≤ s.onset.table.length → exec .createSignature s = overrun s1) ∧
      ∀ cause, s.onset.lateCause q.trigger = some cause → cause ≠ .flush → s.onset.table.length < 16 →
        exec .createSignature s = .next (s1.completeOne (some cause) (s1.signatureEntry q true))

/-- CONFIRM, MARK_LONG and CANCEL (R63 to R66), with the request at the head of its detector's channel: the pending entries of the named
episode are confirmed, or marked LONG and confirmed, and those whose window is full complete in table order; or they are removed and
counted in glitches. The other entries, and the order of those that stay, are unchanged. -/
def Obligations.EpisodeRequestsReachItsEntries : Prop :=
  ∀ (s : State) (d : Det) (n : Nat) (rest : List DetRequest), s.resetLow = false →
    let s1 := s.setDet d { s.det d with requests := rest }
    let mine (e : Entry) : Bool := e.episode == some ⟨d, n⟩
    let settle (mark : Entry → Entry) : Host.Outcome State Fault Refusal :=
      .next (({ s1 with onset := { s.onset with
        table := s.onset.table.filterMap fun e =>
          if mine e then (if e.measured = e.measureLen then none else some (mark e)) else some e } } : State).completeAll none
        (s.onset.table.filterMap fun e => if mine e && e.measured == e.measureLen then some (mark e) else none))
    ((s.det d).requests = .confirm n :: rest → exec (.confirm d) s = settle fun e => { e with confirmed := true }) ∧
    ((s.det d).requests = .markLong n :: rest →
      exec (.markLong d) s = settle fun e => { e with long := true, confirmed := true }) ∧
    ((s.det d).requests = .cancel n :: rest →
      exec (.cancel d) s = .next { s1 with
        onset := { s.onset with table := s.onset.table.filter fun e => !mine e }
        counters := { s.counters with
          glitches := min 4294967295 (s.counters.glitches + (s.onset.table.filter mine).length) } })

/-- ONSET_TRIPLE (R59, R66): the entries whose next triple is the one taken, whose window is not full, and for which it is not a DISC
triple after their onset, measure it; those measured in full and confirmed complete in table order; the others are unchanged. -/
def Obligations.OnsetTripleMeasuresItsEntries : Prop :=
  ∀ s : State, s.resetLow = false → s.onset.feed.tripleReady s.ring = true →
    let t := s.ring.read s.onset.feed.taken
    let takes (e : Entry) : Bool :=
      e.onset.idx + e.measured == s.onset.feed.taken && decide (e.measured < e.measureLen) && (e.measured == 0 || !t.disc)
    let done (e : Entry) : Bool := takes e && e.measured + 1 == e.measureLen && e.confirmed
    exec .onsetTriple s = .next (({ s with onset := { s.onset with
        feed := { s.onset.feed with taken := s.onset.feed.taken + 1 }
        table := (s.onset.table.filter fun e => !done e).map fun e => if takes e then e.measure t else e } } : State).completeAll
      none ((s.onset.table.filter done).map fun e => e.measure t))

/-- What measuring a triple does to an entry (R60 to R62): the count and the sums grow, the peak changes only for a strictly greater
energy, marks once taken stay, and the polarity work state stops at the first extremum. -/
def Obligations.MeasurementOfOneTriple : Prop :=
  ∀ (e : Entry) (t : Triple),
    let d := match e.source with | .detector d => d | .slot _ => Det.v
    let component : Component := match d with
      | .v => .z
      | .h => if t.cond.e.natAbs ≤ t.cond.n.natAbs then .n else .e
    let amplitude := match component with | .z => t.cond.z.natAbs | .n => t.cond.n.natAbs | .e => t.cond.e.natAbs
    let m := e.measure t
    m.measured = e.measured + 1 ∧ m.vSum = e.vSum + t.cond.z.natAbs ^ 2 ∧
      m.hSum = e.hSum + (t.cond.n.natAbs ^ 2 + t.cond.e.natAbs ^ 2) ∧
      (m.clipped = true ↔ e.clipped = true ∨ t.clip.z = true ∨ t.clip.n = true ∨ t.clip.e = true) ∧
      (m.filled = true ↔ e.filled = true ∨ t.filled = true) ∧
      ((∀ p, e.peak = some p → p.energy < t.energy d) → m.peak = some ⟨t.energy d, e.measured, component, amplitude⟩) ∧
      (∀ p, e.peak = some p → t.energy d ≤ p.energy → m.peak = some p) ∧
      (e.measured = 0 → m.work = ⟨signOf t.cond.z, t.cond.z, none⟩) ∧
      (e.measured ≠ 0 → ∀ x, e.work.extremum = some x → m.work = e.work) ∧
      (e.measured ≠ 0 → e.work.extremum = none →
        (t.cond.z.natAbs ≤ e.work.previous.natAbs →
          m.work = { e.work with extremum := some (e.work.previous, e.measured - 1) }) ∧
        (e.work.previous.natAbs < t.cond.z.natAbs → m.work = { e.work with previous := t.cond.z })) ∧
      m.kind = e.kind ∧ m.source = e.source ∧ m.episode = e.episode ∧ m.trigger = e.trigger ∧ m.onset = e.onset ∧
      m.reference = e.reference ∧ m.threshold = e.threshold ∧ m.measureLen = e.measureLen ∧ m.confirmed = e.confirmed ∧
      m.edge = e.edge ∧ m.long = e.long ∧ m.inverted = e.inverted ∧ m.confirmedBy = e.confirmedBy ∧ m.score = e.score ∧
      m.coincident = e.coincident ∧ m.label = e.label

/-- Completion (R66 to R70): the pick takes the next pick number, which advances from 65535 to 1; its snr16, grade, hv16, classification,
phase, PHASE_DISAGREE and polarity are those of the tables; its flag GAP, cause and the rest are the entry's. -/
def Obligations.CompletionGradesAndLabels : Prop :=
  ∀ (s : State) (gap : Option Cause) (e : Entry), ∃ p : Pick,
    s.completeOne gap e = { s with
      onset := { s.onset with nextPick := if s.onset.nextPick < 65535 then s.onset.nextPick + 1 else 1 }
      assoc := { s.assoc with picks := s.assoc.picks ++ [p] } } ∧
    let set := s.onset.phas
    let lmin := match e.source with | .detector d => (s.det d).settings.lmin | .slot _ => s.detV.settings.lmin
    let y := match e.work.extremum with | some x => x.1 | none => e.work.previous
    p.number = s.onset.nextPick ∧ p.kind = e.kind ∧ p.source = e.source ∧ p.onset = e.onset ∧
      p.triggerTime = e.trigger.time ∧ p.gapCause = gap ∧ p.measured = e.measured ∧ p.edge = e.edge ∧
      p.clipped = e.clipped ∧ p.filled = e.filled ∧ p.long = e.long ∧ p.inverted = e.inverted ∧
      p.confirmedBy = e.confirmedBy ∧ p.coincident = e.coincident ∧ p.score = e.score ∧
      (∀ k, e.peak = some k → p.snr16 = min 4095 (16 * k.energy / max e.reference lmin) ∧
        p.peakAmplitude = k.amplitude ∧ p.peakComponent = k.component ∧ p.peakOffset = k.offset) ∧
      (set.g3 ≤ p.snr16 → p.grade = 3) ∧ (set.g2 ≤ p.snr16 → p.snr16 < set.g3 → p.grade = 2) ∧
      (set.g1 ≤ p.snr16 → p.snr16 < set.g2 → p.snr16 < set.g3 → p.grade = 1) ∧
      (p.snr16 < set.g1 → p.snr16 < set.g2 → p.snr16 < set.g3 → p.grade = 0) ∧
      p.hv16 = min 4095 (16 * e.hSum / max e.vSum 1) ∧
      (p.classification = .p ↔ p.hv16 ≤ set.pLimit) ∧
      (p.classification = .s ↔ set.pLimit < p.hv16 ∧ set.sLimit ≤ p.hv16) ∧
      p.phase = e.label.getD p.classification ∧
      (p.disagree = true ↔ ∃ l, e.label = some l ∧ l ≠ p.classification) ∧
      (p.polarity = .up ↔ p.phase = .p ∧ e.threshold ≤ y.natAbs ^ 2 ∧ 0 < y ∧ e.work.onsetSign = 1) ∧
      (p.polarity = .down ↔ p.phase = .p ∧ e.threshold ≤ y.natAbs ^ 2 ∧ y < 0 ∧ e.work.onsetSign = -1)

/-- ONSET_DISCONTINUITY and ONSET_FLUSH (R75, R76): every pending entry completes with GAP and the signal's cause, in table order; or is
discarded and counted in pending_flushed, the pick number kept. The boundary is set to the newest triple written, with the cause. Each
pick is what completion makes of its entry (the completion statement), the numbers following one another from the next pick number on. -/
def Obligations.SignalSettlesThePendingTable : Prop :=
  (∀ (s : State) (gap : Option Cause) (e : Entry) (es : List Entry),
    s.completeAll gap [] = s ∧ s.completeAll gap (e :: es) = (s.completeOne gap e).completeAll gap es) ∧
  ∀ (s : State) (c : Cause), s.resetLow = false → s.onset.feed.signalReady = some c →
    let o : OnsetUnit := { s.onset with
      feed := { s.onset.feed with signals := s.onset.feed.signals.tail }
      table := [], boundary := some ⟨s.ring.written, c⟩ }
    (c ≠ .flush →
      exec .onsetDiscontinuity s = .next (({ s with onset := o } : State).completeAll (some c) s.onset.table)) ∧
    (c ≠ .flush → ∃ (n : Nat) (picks : List Pick),
      exec .onsetDiscontinuity s = .next { s with
        onset := { o with nextPick := n }, assoc := { s.assoc with picks := s.assoc.picks ++ picks } } ∧
      picks.length = s.onset.table.length ∧
      (s.onset.nextPick + s.onset.table.length ≤ 65535 → n = s.onset.nextPick + s.onset.table.length) ∧
      ∀ i p e, picks[i]? = some p → s.onset.table[i]? = some e →
        p.gapCause = some c ∧ p.onset = e.onset ∧ p.measured = e.measured ∧ p.kind = e.kind ∧ p.source = e.source ∧
        (s.onset.nextPick + i ≤ 65535 → p.number = s.onset.nextPick + i)) ∧
    (c = .flush → exec .onsetFlush s = .next ({ s with
      onset := o
      counters := { s.counters with
        pendingFlushed := min 4294967295 (s.counters.pendingFlushed + s.onset.table.length) } } : State).finishFlush)

/-! ## The Signature Bank (chapter 4) -/

/-- When a slot's window matches, and what it asks (R90 to R93): the window is the N triples that end with the one taken, read back as
far as R23 allows; it matches when 16 times the score reaches Ncmp times m16, or when its negative does and inversion is permitted. The
score is the sum of the contributions over the positions of the window, and is bounded by its COMPARE positions.
What one position contributes (R91, R92): only COMPARE counts; a FILLED triple, a value of 0, or one inside the gate gives no sign, and
equal signs give +1, different ones -1.
A walk toward older triples (R23): it yields a run of consecutive triples ending at the one named, at most as many as asked for, no DISC
triple but at its oldest place, none older than the oldest held; it is shorter than asked only where it ends at one of those limits. -/
def Obligations.SlotMatchesAtItsLevel : Prop :=
  ((∀ (x : SigSlot) (n : Fin 8) (r : Ring) (idx : Nat),
      let w := r.walkBack x.length idx []
      let score := scoreOf x.gate x.positions w
      let onset := idx - (x.length - 1) + x.onsetOffset
      let hit := w.length = x.length ∧ ((0 < score ∧ (x.compareCount * x.m16 : Nat) ≤ 16 * score) ∨
        (x.invert = true ∧ score < 0 ∧ (x.compareCount * x.m16 : Nat) ≤ 16 * -score))
      (hit → x.evaluate n r idx = some
        ⟨n, ⟨idx, (r.read idx).time⟩, ⟨onset, (r.read onset).time⟩, score, x.label, decide (score < 0)⟩) ∧
      (¬hit → x.evaluate n r idx = none)) ∧
    ∀ (gate : Nat) (ps : List Position) (w : List Triple),
      scoreOf gate ps w = ((ps.zip w).map fun x => contribution gate x.1 x.2).sum ∧
      (scoreOf gate ps w).natAbs ≤ ((ps.take w.length).filter fun p => p.mask == .compare).length) ∧
  (∀ (gate : Nat) (p : Position) (t : Triple),
      let up := t.filled = false ∧ 0 < t.cond.z ∧ (gate : Int) ≤ t.cond.z
      let down := t.filled = false ∧ t.cond.z < 0 ∧ (gate : Int) ≤ -t.cond.z
      (p.mask ≠ .compare → contribution gate p t = 0) ∧
      (p.mask = .compare →
        ((up ∧ 0 < p.value) ∨ (down ∧ p.value < 0) → contribution gate p t = 1) ∧
        ((up ∧ p.value < 0) ∨ (down ∧ 0 < p.value) → contribution gate p t = -1) ∧
        ((¬up ∧ ¬down) ∨ p.value = 0 → contribution gate p t = 0))) ∧
  (∀ (r : Ring) (n idx : Nat), r.oldest ≤ idx →
      let w := r.walkBack n idx []
      w.length ≤ n ∧ w.length ≤ idx + 1 - r.oldest ∧
        (∀ k t, w[k]? = some t → t = r.read (idx + 1 - w.length + k) ∧ (k ≠ 0 → t.disc = false)) ∧
        (w.length = n ∨ idx + 1 - w.length = r.oldest ∨ ∃ t, w.head? = some t ∧ t.disc = true))

/-- SIGNATURE_TRIPLE (R89, R93, R94): an EMPTY or LOADING slot is passed over; an ACTIVE one with dead time left counts it down; one with
none evaluates its window, and on a match takes N as its dead time. The matches make their requests in order of slot number, each counted
in signature_matches.
SIGNATURE_DISCONTINUITY and SIGNATURE_FLUSH (R95, R96): every slot's dead time becomes 0 and everything else of it is kept. -/
def Obligations.SignatureBankTakesTriplesAndSignals : Prop :=
  (∀ s : State, s.resetLow = false → s.bank.feed.tripleReady s.ring = true → s.counters.signatureMatches ≤ 4294967295 →
      let idx := s.bank.feed.taken
      let request (n : Fin 8) : Option SigRequest :=
        let x := s.bank.slots.get n
        if x.state = .active ∧ x.dead = 0 then x.evaluate n s.ring idx else none
      let requests := slotNumbers.filterMap request
      ∃ slots : Eight SigSlot,
        exec .signatureTriple s = .next { s with
          bank := { feed := { s.bank.feed with taken := idx + 1 }, slots := slots, requests := s.bank.requests ++ requests }
          counters := { s.counters with
            signatureMatches := min 4294967295 (s.counters.signatureMatches + requests.length) } } ∧
        ∀ n, let x := s.bank.slots.get n
          (x.state ≠ .active → slots.get n = x) ∧
          (x.state = .active → x.dead ≠ 0 → slots.get n = { x with dead := x.dead - 1 }) ∧
          (x.state = .active → x.dead = 0 → request n = none → slots.get n = x) ∧
          (x.state = .active → x.dead = 0 → request n ≠ none → slots.get n = { x with dead := x.length })) ∧
  (∀ (s : State) (c : Cause), s.resetLow = false → s.bank.feed.signalReady = some c →
      ∃ slots : Eight SigSlot, (∀ n, slots.get n = { s.bank.slots.get n with dead := 0 }) ∧
        let u : State := { s with bank := { s.bank with
          feed := { s.bank.feed with signals := s.bank.feed.signals.tail }, slots := slots } }
        (c ≠ .flush → exec .signatureDiscontinuity s = .next u) ∧
        (c = .flush → exec .signatureFlush s = .next u.finishFlush))

/-- SIGW (R81 to R84): a slot above 7 is refused SLOT; without a whole slot number nothing applies; otherwise the slot becomes LOADING with
its dead time 0, the start index moves the write pointer (0xFFFF leaves it, 256 and above take 256), and each whole pair is written at the
pointer, which advances and stops at 256. The field count is the fields that arrived; CLAMPED says that the start index was 256 to 0xFFFE, or
that a pair was past the last position, held the value -128 or a mask code above 2. -/
def Obligations.SigwWritesPairsIntoALoadingSlot : Prop :=
  ∀ (s : State) (m : InMsg), s.decodes m → m.code = 0x18 →
    let whole := takeFields [1, 2] m.body
    let pairs := if whole.length = 2 then sigPairs (m.body.drop 3) else []
    (m.body = [] → exec .sigw s = .next (s.popMessage.reply (.ackn 0x18 false m.isBroken 0))) ∧
    (∀ b rest, m.body = b :: rest → 7 < b.toNat → exec .sigw s = .next (s.popMessage.reply (.rfsd 0x18 .slot))) ∧
    ∀ b rest, ∀ n : Fin 8, m.body = b :: rest → b.toNat = n.val →
      ∃ (x : SigSlot) (clamped : Bool),
        exec .sigw s = .next (({ s.popMessage with bank := { s.bank with slots := s.bank.slots.set n x } }).reply
          (.ackn 0x18 clamped m.isBroken (whole.length + pairs.length))) ∧
        (clamped = true ↔ (∃ v, whole[1]? = some v ∧ 256 ≤ v ∧ v ≠ 0xFFFF) ∨
          ∃ k v c, pairs[k]? = some (v, c) ∧ (256 ≤ (match whole[1]? with
            | none => (s.bank.slots.get n).writePtr
            | some v => if v = 0xFFFF then (s.bank.slots.get n).writePtr else min v 256) + k ∨ v = -128 ∨ 2 < c)) ∧
        x.state = .loading ∧ x.dead = 0 ∧
        (let old := s.bank.slots.get n
         let ptr := match whole[1]? with
           | none => old.writePtr
           | some v => if v = 0xFFFF then old.writePtr else min v 256
         old.positions.length = 256 → ptr ≤ 256 →
          x.writePtr = min 256 (ptr + pairs.length) ∧ x.positions.length = 256 ∧
          (∀ k v c, pairs[k]? = some (v, c) → ptr + k < 256 → x.positions[ptr + k]? = some ⟨max (-127) v,
            if c = 0 then .ignore else if c = 1 then .compare else .stop⟩) ∧
          (∀ i, i < ptr ∨ ptr + pairs.length ≤ i → x.positions[i]? = old.positions[i]?)) ∧
        x.gate = (s.bank.slots.get n).gate ∧ x.m16 = (s.bank.slots.get n).m16 ∧
        x.onsetOffset = (s.bank.slots.get n).onsetOffset ∧ x.label = (s.bank.slots.get n).label ∧
        x.invert = (s.bank.slots.get n).invert

/-- SIGE and SIGD with their whole body (R80, R85 to R88): a slot above 7 or an EMPTY one is refused SLOT, and SIGE also on LOADING contents
that are not a valid signature; SIGE makes a valid LOADING slot ACTIVE with N, Ncmp and the clamped parameters, or replaces those of an
ACTIVE one; SIGD makes an ACTIVE slot LOADING with its dead time 0 and leaves a LOADING one. -/
def Obligations.SigeAndSigdSwitchASlot : Prop :=
  ∀ (s : State) (m : InMsg) (b : Byte) (rest : List Byte), s.decodes m → m.status = .complete → m.body = b :: rest →
    let set (n : Fin 8) (x : SigSlot) : State := { s.popMessage with bank := { s.bank with slots := s.bank.slots.set n x } }
    (m.code = 0x19 → 8 ≤ m.body.length →
      let byte (i : Nat) : Nat := ((m.body[i]?).getD 0).toNat
      let gate := 65536 * byte 1 + 256 * byte 2 + byte 3
      let put (x : SigSlot) (n : Nat) : SigSlot := { x with
        gate := min 8388607 gate, m16 := max 1 (min 16 (byte 4)), onsetOffset := min (byte 5) (n - 1)
        label := if byte 6 = 0 then .p else .s, invert := decide (byte 7 ≠ 0) }
      (7 < b.toNat → exec .sige s = .next (s.popMessage.reply (.rfsd 0x19 .slot))) ∧
      ∀ n : Fin 8, b.toNat = n.val →
        let x := s.bank.slots.get n
        let N := (x.positions.takeWhile fun p => p.mask != .stop).length
        let Ncmp := ((x.positions.takeWhile fun p => p.mask != .stop).filter fun p => p.mask == .compare).length
        let clamped (n : Nat) : Bool := decide (8388607 < gate ∨ byte 4 < 1 ∨ 16 < byte 4 ∨ n - 1 < byte 5 ∨ 1 < byte 6)
        (x.state = .empty ∨ (x.state = .loading ∧ (N < 8 ∨ Ncmp < 1)) →
          exec .sige s = .next (s.popMessage.reply (.rfsd 0x19 .slot))) ∧
        (x.state = .loading → 8 ≤ N → 1 ≤ Ncmp →
          exec .sige s = .next ((set n { put x N with state := .active, length := N, compareCount := Ncmp, dead := 0 }).reply
            (.ackn 0x19 (clamped N) false 6))) ∧
        (x.state = .active →
          exec .sige s = .next ((set n (put x x.length)).reply (.ackn 0x19 (clamped x.length) false 6)))) ∧
    (m.code = 0x1A →
      (7 < b.toNat → exec .sigd s = .next (s.popMessage.reply (.rfsd 0x1A .slot))) ∧
      ∀ n : Fin 8, b.toNat = n.val →
        let x := s.bank.slots.get n
        (x.state = .empty → exec .sigd s = .next (s.popMessage.reply (.rfsd 0x1A .slot))) ∧
        (x.state = .loading → exec .sigd s = .next (s.popMessage.reply (.ackn 0x1A false false 1))) ∧
        (x.state = .active →
          exec .sigd s = .next ((set n { x with state := .loading, dead := 0 }).reply (.ackn 0x1A false false 1))))

/-! ## The Association Unit (chapter 5) -/

/-- ASSOCIATE_PICK of a P pick (R102 to R105, R108, R99): the nearest event whose P lies within the tolerance takes it as DUPLICATE; else the
event without a P whose S follows it in the S-P range, the latest S, adopts it; else it opens an event. Which place is the best is said by
the candidates' statement; here the model's choice functions name it.
ASSOCIATE_PICK of an S or an X pick (R102, R106 to R108, R99): an S joins the event with a P and no S whose P precedes it in the S-P
range, the latest P, or opens an event flagged S_FIRST; an X joins the event whose span with the X join window holds it, the latest first
onset, or stays unassociated.
R114: while the time fence is set, a pick completed with GAP under one of its causes takes event 0 and role NONE, changes no event and
is not placed in the Recent Pick List. -/
def Obligations.PickIsPlacedByItsPhase : Prop :=
  (∀ (s : State) (p : Pick) (rest : List Pick), s.resetLow = false → s.assoc.picks = p :: rest → p.phase = .p →
      isStale s.assoc.fence p = false →
      let t := p.onset.time
      let recent := (if 16 ≤ s.assoc.recent.length then s.assoc.recent.tail else s.assoc.recent) ++ [⟨p.number, p.kind, t⟩]
      let joined (events : List Event) (number : Nat) (role : Role) : Host.Outcome State Fault Refusal := .next { s with
        assoc := { s.assoc with picks := rest, events := events, recent := recent }
        outbox := s.outbox ++ [.toRoute p number role] }
      let grow (ev : Event) : Event := { ev with
        count := min 65535 (ev.count + 1), first := min ev.first t, last := max ev.last t }
      (∀ i ev, s.duplicateOf t = some i → s.assoc.events[i]? = some ev →
        exec .associatePick s = joined (s.assoc.events.set i (grow ev)) ev.number .duplicate) ∧
      (∀ i ev, s.duplicateOf t = none → s.adopter t = some i → s.assoc.events[i]? = some ev →
        exec .associatePick s =
          joined (s.assoc.events.set i { grow ev with p := some ⟨p.number, t⟩, pAdopted := true }) ev.number .p) ∧
      (s.duplicateOf t = none → s.adopter t = none → s.assoc.events.length < 8 → s.assoc.settings.openReport = false →
        exec .associatePick s = .next { s with
          assoc := { s.assoc with
            picks := rest, recent := recent
            events := s.assoc.events ++ [⟨s.assoc.nextEvent, t, some ⟨p.number, t⟩, none, 1, t, false, false⟩]
            nextEvent := if s.assoc.nextEvent < 65535 then s.assoc.nextEvent + 1 else 1 }
          outbox := s.outbox ++ [.toRoute p s.assoc.nextEvent .p] })) ∧
  (∀ (s : State) (p : Pick) (rest : List Pick), s.resetLow = false → s.assoc.picks = p :: rest →
      isStale s.assoc.fence p = false →
      let t := p.onset.time
      let recent := (if 16 ≤ s.assoc.recent.length then s.assoc.recent.tail else s.assoc.recent) ++ [⟨p.number, p.kind, t⟩]
      let joined (events : List Event) (number : Nat) (role : Role) : Host.Outcome State Fault Refusal := .next { s with
        assoc := { s.assoc with picks := rest, events := events, recent := recent }
        outbox := s.outbox ++ [.toRoute p number role] }
      let grow (ev : Event) : Event := { ev with
        count := min 65535 (ev.count + 1), first := min ev.first t, last := max ev.last t }
      (p.phase = .s →
        (∀ i ev, s.sJoin t = some i → s.assoc.events[i]? = some ev →
          exec .associatePick s = joined (s.assoc.events.set i { grow ev with s := some ⟨p.number, t⟩ }) ev.number .s) ∧
        (s.sJoin t = none → s.assoc.events.length < 8 → s.assoc.settings.openReport = false →
          exec .associatePick s = .next { s with
            assoc := { s.assoc with
              picks := rest, recent := recent
              events := s.assoc.events ++ [⟨s.assoc.nextEvent, t, none, some ⟨p.number, t⟩, 1, t, true, false⟩]
              nextEvent := if s.assoc.nextEvent < 65535 then s.assoc.nextEvent + 1 else 1 }
            outbox := s.outbox ++ [.toRoute p s.assoc.nextEvent .s] })) ∧
      (p.phase = .x →
        (∀ i ev, s.xJoin t = some i → s.assoc.events[i]? = some ev →
          exec .associatePick s = joined (s.assoc.events.set i (grow ev)) ev.number .member) ∧
        (s.xJoin t = none → exec .associatePick s = joined s.assoc.events 0 .none))) ∧
  (∀ (s : State) (p : Pick) (rest : List Pick), s.resetLow = false → s.assoc.picks = p :: rest →
      ((s.assoc.fence = some .time ∧ p.gapCause = some .time) ∨
        (s.assoc.fence = some .gapStop ∧ (p.gapCause = some .gap ∨ p.gapCause = some .stop))) →
      exec .associatePick s = .next { s with
        assoc := { s.assoc with picks := rest }, outbox := s.outbox ++ [.toRoute p 0 .none] })

/-- R105, R106, R109, R102 and R116: a P pick that neither duplicates nor is adopted, or an S pick that joins no event, opens one. With 8
events open, the one with the earliest first onset, a tie going to the earlier, closes first with cause FULL, counted in events_forced.
The CLOSE report, then the OPEN report when the flag is set, then the pick are handed on in that order; with the event queue DISCARD no
report is handed on. -/
def Obligations.FullTableForcesTheOldestEventOut : Prop :=
  ∀ (s : State) (p : Pick) (rest : List Pick), s.resetLow = false → s.assoc.picks = p :: rest → isStale s.assoc.fence p = false →
    ((p.phase = .p ∧ s.duplicateOf p.onset.time = none ∧ s.adopter p.onset.time = none) ∨
      (p.phase = .s ∧ s.sJoin p.onset.time = none)) →
    let t := p.onset.time
    let isP := decide (p.phase = .p)
    let m : Member := ⟨p.number, t⟩
    let new : Event := ⟨s.assoc.nextEvent, t, if isP then some m else none, if isP then none else some m, 1, t, !isP, false⟩
    let hand (rs : List EventReport) : List Handed := match s.assoc.settings.queue with
      | none => []
      | some q => rs.map (.report q)
    let opened (closed : List EventReport) (events : List Event) (counters : Counters) : Host.Outcome State Fault Refusal := .next { s with
      assoc := { s.assoc with
        picks := rest
        recent := (if 16 ≤ s.assoc.recent.length then s.assoc.recent.tail else s.assoc.recent) ++ [⟨p.number, p.kind, t⟩]
        events := events ++ [new]
        nextEvent := if s.assoc.nextEvent < 65535 then s.assoc.nextEvent + 1 else 1 }
      counters := counters
      outbox := s.outbox ++ hand closed ++
        hand (if s.assoc.settings.openReport then [⟨new.number, none, t, 1, !isP, false, new.p, new.s, none⟩] else []) ++
        [.toRoute p s.assoc.nextEvent (if isP then .p else .s)] }
    (s.assoc.events.length < 8 → exec .associatePick s = opened [] s.assoc.events s.counters) ∧
    ∀ (i : Nat) (ev : Event), s.assoc.events.length = 8 → s.assoc.events[i]? = some ev →
      (∀ j w, s.assoc.events[j]? = some w → ev.first ≤ w.first ∧ (j < i → ev.first < w.first)) →
      exec .associatePick s = opened [ev.closeReport s.period .full] (s.assoc.events.eraseIdx i)
        { s.counters with eventsForced := min 4294967295 (s.counters.eventsForced + 1) }

/-- ASSOCIATION_GAP, ASSOCIATION_TIME and ASSOCIATION_FLUSH (R112 to R115): GAP and STOP set the gap note, unless one is held, and clear the
fence; TIME closes every event with cause TIME, empties the Recent Pick List and sets the fence against TIME; FLUSH closes every event with
cause FLUSH, empties the list and clears note and fence, the next event number kept. The CLOSE reports are handed on for the event queue, or lost
when that is DISCARD (R116). That a TIME signal replaces the causes of a fence already set, rather than adding TIME to them, is the
model's choice (log 37). -/
def Obligations.AssociationSignals : Prop :=
  ∀ s : State, s.resetLow = false →
    let feed : Feed := { s.assoc.feed with signals := s.assoc.feed.signals.tail }
    let closes (c : CloseCause) : List Handed := match s.assoc.settings.queue with
      | none => []
      | some q => s.assoc.events.map fun ev => .report q (ev.closeReport s.period c)
    (s.assoc.feed.signalReady = some .gap ∨ s.assoc.feed.signalReady = some .stop →
      exec .associationGap s = .next { s with assoc := { s.assoc with
        feed := feed, fence := none
        gapNote := if s.assoc.gapNote = none then some s.assoc.lastTime else s.assoc.gapNote } }) ∧
    (s.assoc.feed.signalReady = some .time →
      exec .associationTime s = .next { s with
        assoc := { s.assoc with feed := feed, events := [], recent := [], gapNote := none, fence := some .time }
        outbox := s.outbox ++ closes .time }) ∧
    (s.assoc.feed.signalReady = some .flush →
      exec .associationFlush s = .next ({ s with
        assoc := { s.assoc with feed := feed, events := [], recent := [], gapNote := none, fence := none }
        outbox := s.outbox ++ closes .flush } : State).finishFlush)

/-- ASSOCIATION_TRIPLE (R110, R112, R113, R116): with a gap note whose time the triple does not pass, every event closes with cause TIME and
the fence against GAP and STOP is set; otherwise every event whose deadline is earlier than the triple closes, in table order, with cause
QUIET, or GAP where a note is held and the deadline is no earlier than it; the note is then clear. The CLOSE reports are handed on for the
event queue, or lost when that is DISCARD.
The items of a CLOSE report (R116): those of the event as it stands, and with both members the S-P in samples, rounded by half a period
and truncated. -/
def Obligations.AssociationTripleClosesEvents : Prop :=
  (∀ s : State, s.resetLow = false → s.assoc.feed.tripleReady s.ring = true →
      let closes (evs : List Event) (cause : Event → CloseCause) : List Handed := match s.assoc.settings.queue with
        | none => []
        | some q => evs.map fun ev => .report q (ev.closeReport s.period (cause ev))
      let time := (s.ring.read s.assoc.feed.taken).time
      let deadline (ev : Event) : Nat := ev.last + s.assoc.settings.closeWindow * s.period
      let feed : Feed := { s.assoc.feed with taken := s.assoc.feed.taken + 1 }
      let late (ev : Event) : Bool := decide (deadline ev < time)
      let cause (ev : Event) : CloseCause := match s.assoc.gapNote with
        | none => .quiet
        | some none => .gap
        | some (some n) => if n ≤ deadline ev then .gap else .quiet
      ((∃ n, s.assoc.gapNote = some (some n) ∧ time ≤ n) →
        exec .associationTriple s = .next { s with
          assoc := { s.assoc with
            feed := feed, events := [], recent := [], gapNote := none, fence := some .gapStop, lastTime := some time }
          outbox := s.outbox ++ closes s.assoc.events fun _ => .time }) ∧
      ((∀ n, s.assoc.gapNote = some (some n) → n < time) →
        exec .associationTriple s = .next { s with
          assoc := { s.assoc with
            feed := feed, events := s.assoc.events.filter fun ev => !late ev, gapNote := none, lastTime := some time }
          outbox := s.outbox ++ closes (s.assoc.events.filter late) cause })) ∧
  (∀ (ev : Event) (period : Nat) (c : CloseCause),
      let r := ev.closeReport period c
      r.number = ev.number ∧ r.cause = some c ∧ r.first = ev.first ∧ r.count = ev.count ∧ r.sFirst = ev.sFirst ∧
        r.pAdopted = ev.pAdopted ∧ r.p = ev.p ∧ r.s = ev.s ∧
        (r.sp.isSome = true ↔ ev.p.isSome = true ∧ ev.s.isSome = true) ∧
        (0 < period → ∀ a b, ev.p = some a → ev.s = some b → a.onset ≤ b.onset →
          ∃ n, r.sp = some n ∧ 2 * (n * period) ≤ 2 * (b.onset - a.onset) + period ∧
            2 * (b.onset - a.onset) + period < 2 * (n * period) + 2 * period))

/-! ## Settings messages and refusals (sections 8.4, 9.2 and 9.3) -/

/-- R164: the fields of a settings message are read in body order, most significant byte first, each one that arrived complete: field `i`
is there exactly when the body reaches its last byte.
ONST, PHAS, EVTS and SNIP (R73, R74, R117, R153, R164): each field that arrived is stored at its nearest limit, the rest stand; then the
pair checks: g2 no less than g1, g3 no less than g2, the s-limit above the p-limit; S-P max no less than S-P min; pre + post at most 512.
The reply counts the fields, is PARTIAL when the message is broken, and CLAMPED exactly when a received field lay outside its range or a
pair was adjusted. -/
def Obligations.SettingsAreReadStoredAndChecked : Prop :=
  (∀ (ns : List Nat) (bs : List Byte) (i : Nat),
      (∀ n, ns[i]? = some n →
        ((ns.take (i + 1)).sum ≤ bs.length → (takeFields ns bs)[i]? = some (beVal ((bs.drop (ns.take i).sum).take n))) ∧
        (bs.length < (ns.take (i + 1)).sum → (takeFields ns bs)[i]? = none)) ∧
      (ns.length ≤ i → (takeFields ns bs)[i]? = none) ∧
      (∀ (c : Byte) (cs : List Byte), beVal (c :: cs) = c.toNat * 256 ^ cs.length + beVal cs)) ∧
  (∀ (s : State) (m : InMsg), s.decodes m →
      let put (fs : List Nat) (i lo hi old : Nat) : Nat := (fs[i]?.map fun v => max lo (min hi v)).getD old
      let out (fs : List Nat) (i lo hi : Nat) : Prop := ∃ v, fs[i]? = some v ∧ (v < lo ∨ hi < v)
      (m.code = 0x0D →
        let fs := takeFields [2, 1, 1, 2, 1] m.body
        let p := s.onset.onst
        ∃ clamped, exec .onst s = .next (({ s.popMessage with onset := { s.onset with onst :=
            ⟨put fs 0 8 1024 p.lookBack, put fs 1 1 64 p.runLength, put fs 2 16 255 p.factor, put fs 3 16 256 p.measureLen,
              put fs 4 0 255 p.tolerance⟩ } }).reply (.ackn 0x0D clamped m.isBroken fs.length)) ∧
          (clamped = true ↔ out fs 0 8 1024 ∨ out fs 1 1 64 ∨ out fs 2 16 255 ∨ out fs 3 16 256 ∨ out fs 4 0 255)) ∧
      (m.code = 0x0E →
        let fs := takeFields [2, 2, 2, 2, 2] m.body
        let p := s.onset.phas
        let g1 := put fs 0 0 4095 p.g1
        let g2 := put fs 1 0 4095 p.g2
        let g3 := put fs 2 0 4095 p.g3
        let pl := put fs 3 0 4094 p.pLimit
        let sl := put fs 4 1 4095 p.sLimit
        ∃ clamped, exec .phas s = .next (({ s.popMessage with onset := { s.onset with phas :=
            ⟨g1, max g2 g1, max g3 (max g2 g1), pl, if sl ≤ pl then pl + 1 else sl⟩ } }).reply
              (.ackn 0x0E clamped m.isBroken fs.length)) ∧
          (clamped = true ↔ out fs 0 0 4095 ∨ out fs 1 0 4095 ∨ out fs 2 0 4095 ∨ out fs 3 0 4094 ∨ out fs 4 1 4095 ∨
            g2 < g1 ∨ g3 < max g2 g1 ∨ sl ≤ pl)) ∧
      (m.code = 0x0F →
        let fs := takeFields [2, 2, 1, 2, 2, 1, 1] m.body
        let p := s.assoc.settings
        let low := put fs 0 1 65535 p.spMin
        let high := put fs 1 0 65535 p.spMax
        ∃ clamped, exec .evts s = .next (({ s.popMessage with assoc := { s.assoc with settings := {
            spMin := low
            spMax := max high low
            pTolerance := put fs 2 0 255 p.pTolerance
            xWindow := put fs 3 0 65535 p.xWindow
            closeWindow := put fs 4 256 65535 p.closeWindow
            openReport := (fs[5]?.map fun v => decide (v ≠ 0)).getD p.openReport
            queue := match fs[6]? with
              | none => p.queue
              | some v => if h : v < 4 then some ⟨v, h⟩ else none } } }).reply (.ackn 0x0F clamped m.isBroken fs.length)) ∧
          (clamped = true ↔ out fs 0 1 65535 ∨ out fs 4 256 65535 ∨ high < low)) ∧
      (m.code = 0x14 →
        let fs := takeFields [1, 2, 1] m.body
        let p := s.snips.settings
        let pre := put fs 0 0 255 p.pre
        let post := put fs 1 1 511 p.post
        ∃ clamped, exec .snip s = .next (({ s.popMessage with snips := { s.snips with settings :=
            ⟨pre, min post (512 - pre), put fs 2 4 24 p.size⟩ } }).reply (.ackn 0x14 clamped m.isBroken fs.length)) ∧
          (clamped = true ↔ out fs 1 1 511 ∨ out fs 2 4 24 ∨ 512 - pre < post)))

/-- Refusals of the Command Decoder (R162, R163, R165, R177): an unknown code is refused UNKNOWN, complete or broken; an action message
that is broken, or whose body is shorter than its own, is refused SHORT and changes nothing else. No message is decoded while the reply
queue is full (RSTR apart) or an FLSH is still being decoded, and a decode command for another code than the oldest message's, or the unknown code's
where the oldest has an inbound code, changes nothing (log 3). -/
def Obligations.UnfitMessagesAreRefused : Prop :=
  (∀ (s : State) (m : InMsg), s.decodes m →
    (m.code ∉ ([0x01, 0x02, 0x03, 0x04, 0x08, 0x09, 0x0A, 0x0C, 0x0D, 0x0E, 0x0F, 0x10, 0x11, 0x12, 0x13, 0x14, 0x18, 0x19, 0x1A]
        : List Byte) →
      exec .unknownCode s = .next (s.popMessage.reply (.rfsd m.code .unknown))) ∧
    ∀ (c : Instr) (code : Byte) (need : Nat),
      (c, code, need) ∈ ([(.run, 0x09, 0), (.stop, 0x0A, 0), (.flsh, 0x02, 0), (.stat, 0x03, 0), (.cntr, 0x04, 1), (.grnt, 0x12, 2),
        (.qrst, 0x13, 1), (.sige, 0x19, 8), (.sigd, 0x1A, 1)] : List (Instr × Byte × Nat)) →
      m.code = code → (m.status = .broken ∨ m.body.length < need) →
      exec c s = .next (s.popMessage.reply (.rfsd code .short))) ∧
  (∀ (s : State) (c : Instr) (code : Byte),
    (c, code) ∈ ([(.rstr, 0x01), (.flsh, 0x02), (.stat, 0x03), (.cntr, 0x04), (.inpt, 0x08), (.run, 0x09), (.stop, 0x0A), (.dets, 0x0C),
      (.onst, 0x0D), (.phas, 0x0E), (.evts, 0x0F), (.rout, 0x10), (.qset, 0x11), (.grnt, 0x12), (.qrst, 0x13), (.snip, 0x14),
      (.sigw, 0x18), (.sige, 0x19), (.sigd, 0x1A)] : List (Instr × Byte)) →
    (8 ≤ s.link.replies.length ∧ c ≠ .rstr ∨ s.flushing = true ∨
      (∀ m, s.link.inbox.head? = some m → m.status = .inProgress ∨ m.code ≠ code)) →
    exec c s = .next s) ∧
  ∀ (s : State),
    (8 ≤ s.link.replies.length ∨ s.flushing = true ∨
      (∀ m, s.link.inbox.head? = some m → m.status = .inProgress ∨ m.code ∈
        ([0x01, 0x02, 0x03, 0x04, 0x08, 0x09, 0x0A, 0x0C, 0x0D, 0x0E, 0x0F, 0x10, 0x11, 0x12, 0x13, 0x14, 0x18, 0x19, 0x1A]
          : List Byte))) →
    exec .unknownCode s = .next s

/-! ## Routing and the report queues (chapter 6) -/

/-- ROUTE_PICK (R119 to R121): the first pick not yet routed, with reports alone before it, takes the entry of its class: 16 times its grade,
4 times its phase code (3 for a SECONDARY), 2 for a SIGNATURE, 1 when clipped. It is discarded and counted, or becomes an arrival for the
entry's queue, with SNIPPET when the entry asks for it and a slot is FREE, and SNIPPET_LOST, counted, when none is. A routed pick that
still waits for its admission holds the next one back (log 11).
ROUT (R122): entry bytes go to successive indexes from the first index on, those at 64 or more are ignored, and the reply is CLAMPED
exactly when there is such an index; destinations 0 to 3 name the queues, any other is DISCARD, and the high bit is the attach flag.
Without a first index nothing is written. -/
def Obligations.RoutingFollowsTheRouteTable : Prop :=
  (∀ (s : State), s.resetLow = false →
      (∀ (p : Pick) (event : Nat) (role : Role) (before after : List Handed) (e : RouteEntry),
        s.outbox = before ++ .toRoute p event role :: after → (∀ x ∈ before, ∃ q r, x = .report q r) →
        s.routes[16 * p.grade +
          4 * (if p.kind = .secondary then 3 else match p.phase with | .p => 0 | .s => 1 | .x => 2) +
          2 * (if p.kind = .signature then 1 else 0) + (if p.clipped = true then 1 else 0)]? = some e →
        (e.dest = none → exec .routePick s = .next { s with
          outbox := before ++ after
          counters := { s.counters with routeDiscards := min 4294967295 (s.counters.routeDiscards + 1) } }) ∧
        ∀ q, e.dest = some q →
          (e.attach = false →
            exec .routePick s = .next { s with outbox := before ++ .routed q ⟨p, event, role, .none⟩ :: after }) ∧
          (e.attach = true → (∃ n, (s.snips.slots.get n).state = .free) →
            exec .routePick s = .next { s with outbox := before ++ .routed q ⟨p, event, role, .snippet⟩ :: after }) ∧
          (e.attach = true → (∀ n, (s.snips.slots.get n).state ≠ .free) →
            exec .routePick s = .next { s with
              outbox := before ++ .routed q ⟨p, event, role, .lost⟩ :: after
              counters := { s.counters with snippetLost := min 4294967295 (s.counters.snippetLost + 1) } })) ∧
      ∀ (before after : List Handed) (q : Fin 4) (r : PickReport),
        s.outbox = before ++ .routed q r :: after → (∀ x ∈ before, ∃ q r, x = .report q r) → exec .routePick s = .next s) ∧
  (∀ (s : State) (m : InMsg), s.decodes m → m.code = 0x10 → s.routes.length = 64 →
      (m.body = [] → exec .rout s = .next (s.popMessage.reply (.ackn 0x10 false m.isBroken 0))) ∧
      ∀ (first : Byte) (entries : List Byte), m.body = first :: entries →
        ∃ (routes : List RouteEntry) (clamped : Bool),
          exec .rout s = .next (({ s.popMessage with routes := routes }).reply
            (.ackn 0x10 clamped m.isBroken (1 + entries.length))) ∧
          (clamped = true ↔ 64 ≤ first.toNat ∨ 64 < first.toNat + entries.length) ∧ routes.length = 64 ∧
          (∀ k b, entries[k]? = some b → first.toNat + k < 64 → routes[first.toNat + k]? = some
            ⟨if h : b.toNat % 128 < 4 then some ⟨b.toNat % 128, h⟩ else none, decide (128 ≤ b.toNat)⟩) ∧
          (∀ i, i < first.toNat ∨ first.toNat + entries.length ≤ i → routes[i]? = s.routes[i]?))

/-- QUEUE_ARRIVAL of the arrival at the head of the outbox (R124, R126, R129 to R131, R142). With room in the pool its records go to the tail
of its queue, which starts its timer when it was empty, becomes ready at its batch level or with a hold time of 0, and makes its starvation
test; a snippet item goes behind its PICK with the lowest FREE slot, taken for the pick at that moment (no FREE slot stops the part, which
no run reaches: log 26). When the evictable records of the queues numbered above it cannot make up what is lacking, it is lost: each of
its records counts in pool_lost, and POOL_LOSS is raised once. Otherwise the head of the outbox is no arrival yet, and waits.
A pick with a snippet item whose onset was written after a signal that the store has still to take waits at the head of the outbox while
there is room for it: the store copies no triple of the new run before that signal (R17; that the whole arrival waits is the model's,
log 36). -/
def Obligations.ArrivalIsAdmittedOrLost : Prop :=
  (∀ (s : State) (i : Fin 4) (x : Queue), s.putQueue i x =
    if x.ready = true ∧ x.records ≠ [] ∧ x.credits = 0 ∧ x.starved = false then
      { s with
        queues := s.queues.set i { x with starved := true }
        link := { s.link with notices := raiseNotice s.link.notices (.starved i) } }
    else { s with queues := s.queues.set i x }) ∧
  (∀ s : State, s.resetLow = false → (∀ q rest, (∀ r, s.outbox ≠ .report q r :: rest) ∧ ∀ r, s.outbox ≠ .routed q r :: rest) →
    exec .queueArrival s = .next s) ∧
  ∀ (s : State) (h : Handed) (rest : List Handed) (i : Fin 4), s.resetLow = false → s.outbox = h :: rest →
    let x := s.queues.get i
    let with_ (rs : List Record) : Queue := { x with
      records := x.records ++ rs
      timer := if x.records = [] then .running 0 else x.timer
      expiry := if x.records = [] then false else x.expiry
      ready := x.ready || decide (x.batch ≤ x.records.length + rs.length ∨ x.hold = 0) }
    let evictable (j : Fin 4) : Nat := if i < j then (s.queues.get j).records.countP Record.unsent else 0
    let victims := evictable 3 + evictable 2 + evictable 1
    let held := (s.queues.get 0).records.length + (s.queues.get 1).records.length + (s.queues.get 2).records.length +
      (s.queues.get 3).records.length
    let lost (n : Nat) : State := { s with
      outbox := rest
      queues := s.queues.set i { x with lossNote := true }
      counters := { s.counters with poolLost := s.counters.poolLost.set i (min 4294967295 (s.counters.poolLost.get i + n)) }
      link := { s.link with
        notices := if x.lossNote = true then s.link.notices else raiseNotice s.link.notices (.poolLoss i) } }
    (∀ rec : Record, (∃ r, h = .report i r ∧ rec = .evnt r) ∨ (∃ r, h = .routed i r ∧ r.mark ≠ .snippet ∧ rec = .pick r) →
      (held + 1 ≤ 96 → exec .queueArrival s = .next (({ s with outbox := rest } : State).putQueue i (with_ [rec]))) ∧
      (96 < held + 1 → (∀ j, (s.queues.get j).sound) → held + 1 - 96 > victims → exec .queueArrival s = .next (lost 1))) ∧
    ∀ r : PickReport, h = .routed i r → r.mark = .snippet →
      (held + 2 ≤ 96 → (∃ g, s.snips.feed.signals.head? = some g ∧ g.after ≤ r.pick.onset.idx) →
        exec .queueArrival s = .next s) ∧
      (held + 2 ≤ 96 → (∀ g, s.snips.feed.signals.head? = some g → r.pick.onset.idx < g.after) →
        (∀ n : Fin 8, (s.snips.slots.get n).state = .free → (∀ k, k < n → (s.snips.slots.get k).state ≠ .free) →
          exec .queueArrival s =
            .next ((({ s with outbox := rest } : State).takeSlot n r.pick).putQueue i (with_ [.pick r, .item n 0]))) ∧
        ((∀ n, (s.snips.slots.get n).state ≠ .free) → exec .queueArrival s = .fault .snippetSlotMissing)) ∧
      (96 < held + 2 → (∀ j, (s.queues.get j).sound) → held + 2 - 96 > victims → exec .queueArrival s = .next (lost 2))

/-- Eviction (R125, R126, R129, R130): for an arrival that lacks `lack` records, victims leave queue 3, then 2, then 1, stopping before its
own queue, oldest first, passing over an item that has sent a segment, until the lack is met; a PICK takes its snippet item along, so at
most one record too many leaves and no item stays whose PICK, directly before it, went. Every queue keeps its other records in order, an
emptied one is untimed and not ready; each record counts on its queue, and POOL_LOSS is raised where the loss note was clear. Then the
arrival is admitted. The evicted items' slots are put to their reset values: R152 says FREE, that the other fields are those of reset is
the model's choice (log 18). An item whose PICK was sent may be evicted (log 32).
There is room exactly when what the arrival lacks is no more than the evictable records of the queues numbered above its own, and then
the arrival is admitted; a pick with a snippet item takes the lowest slot then FREE, be it one that the eviction freed (log 35), and
waits, nothing evicted, while its onset was written after a signal that the store has still to take (R17, log 36). -/
def Obligations.EvictionTakesTheOldestOfTheLowestQueue : Prop :=
  (∀ (n : Nat) (rs : List Record), (∀ r ∈ rs.tail, r.unsent = true) →
    let stay := (evictFrom n rs).1
    let gone := (evictFrom n rs).2
    ∃ k, k ≤ rs.length ∧ gone = (rs.take k).filter Record.unsent ∧
      stay = (rs.take k).filter (fun r => !r.unsent) ++ rs.drop k ∧ gone.length ≤ n + 1 ∧ (n = 0 → gone = []) ∧
      (gone.length < n → k = rs.length) ∧
      (∀ i p sl m, rs[i]? = some (.pick p) → rs[i + 1]? = some (.item sl m) → k ≠ i + 1) ∧
      (gone.length = n + 1 → ∃ pre p sl, gone = pre ++ [.pick p, .item sl 0])) ∧
  (∀ (s : State) (i : Fin 4) (n : Nat), (∀ j, (s.queues.get j).sound) →
    let gone3 := if i < 3 then (evictFrom (s.poolHeld + n - 96) (s.queues.get 3).records).2 else []
    let gone2 := if i < 2 then (evictFrom (s.poolHeld + n - 96 - gone3.length) (s.queues.get 2).records).2 else []
    let gone1 := if i < 1 then
      (evictFrom (s.poolHeld + n - 96 - gone3.length - gone2.length) (s.queues.get 1).records).2 else []
    let gone : Fin 4 → List Record := fun j => match j with | 0 => [] | 1 => gone1 | 2 => gone2 | 3 => gone3
    ∀ u, s.makeRoom i n = some u → u.poolHeld + n ≤ 96 ∧
      (∃ queues slots lost notices, u = { s with
        queues := queues
        snips := { s.snips with slots := slots }
        counters := { s.counters with poolLost := lost }
        link := { s.link with notices := notices } }) ∧
      (∀ j, let x := s.queues.get j
        let y := u.queues.get j
        x.records.Perm (gone j ++ y.records) ∧ y.records.Sublist x.records ∧ (gone j = [] → y = x) ∧
        (gone j ≠ [] → y = { x with
          records := y.records
          lossNote := true
          timer := if y.records = [] then .stopped else x.timer
          expiry := if y.records = [] then false else x.expiry
          ready := if y.records = [] then false else x.ready }) ∧
        u.counters.poolLost.get j =
          if gone j = [] then s.counters.poolLost.get j else min 4294967295 (s.counters.poolLost.get j + (gone j).length)) ∧
      (∀ k, u.snips.slots.get k =
        if k ∈ slotsOf gone1 ∨ k ∈ slotsOf gone2 ∨ k ∈ slotsOf gone3 then .reset else s.snips.slots.get k) ∧
      u.link.notices = (([3, 2, 1] : List (Fin 4)).filter fun j => !(gone j).isEmpty && !(s.queues.get j).lossNote).foldl
        (fun ns j => raiseNotice ns (.poolLoss j)) s.link.notices ∧
      (∀ r rest, s.resetLow = false → n = 1 → s.outbox = .report i r :: rest →
        exec .queueArrival s = .next (({ u with outbox := rest } : State).putQueue i ((u.queues.get i).accept [.evnt r]))) ∧
      (∀ r rest, s.resetLow = false → n = 1 → s.outbox = .routed i r :: rest → r.mark ≠ .snippet →
        exec .queueArrival s = .next (({ u with outbox := rest } : State).putQueue i ((u.queues.get i).accept [.pick r]))) ∧
      ∀ r rest k, s.resetLow = false → n = 2 → s.outbox = .routed i r :: rest → r.mark = .snippet → u.snips.lowestFree = some k →
        (∀ g, s.snips.feed.signals.head? = some g → r.pick.onset.idx < g.after) →
        exec .queueArrival s = .next ((({ u with outbox := rest } : State).takeSlot k r.pick).putQueue i
          ((u.queues.get i).accept [.pick r, .item k 0]))) ∧
  (∀ (x : Queue) (rs : List Record), rs ≠ [] → x.accept rs = { x with
    records := x.records ++ rs
    timer := if x.records = [] then .running 0 else x.timer
    expiry := if x.records = [] then false else x.expiry
    ready := x.ready || decide (x.batch ≤ x.records.length + rs.length ∨ x.hold = 0) }) ∧
  ∀ (s : State) (i : Fin 4), (∀ j, (s.queues.get j).sound) →
    let evictable (j : Fin 4) : Nat := if i < j then (s.queues.get j).records.countP Record.unsent else 0
    let victims := evictable 3 + evictable 2 + evictable 1
    let held := (s.queues.get 0).records.length + (s.queues.get 1).records.length + (s.queues.get 2).records.length +
      (s.queues.get 3).records.length
    s.poolHeld = held ∧
    (∀ n, (held + n - 96 ≤ victims → ∃ u, s.makeRoom i n = some u) ∧ (victims < held + n - 96 → s.makeRoom i n = none)) ∧
    ∀ (h : Handed) (rest : List Handed), s.resetLow = false → s.outbox = h :: rest →
      (∀ rec : Record, (∃ r, h = .report i r ∧ rec = .evnt r) ∨ (∃ r, h = .routed i r ∧ r.mark ≠ .snippet ∧ rec = .pick r) →
        held + 1 - 96 ≤ victims → ∃ u, s.makeRoom i 1 = some u ∧
          exec .queueArrival s = .next (({ u with outbox := rest } : State).putQueue i ((u.queues.get i).accept [rec]))) ∧
      (∀ r, h = .routed i r → r.mark = .snippet → held + 2 - 96 ≤ victims →
        (∃ g, s.snips.feed.signals.head? = some g ∧ g.after ≤ r.pick.onset.idx) → exec .queueArrival s = .next s) ∧
      ∀ r, h = .routed i r → r.mark = .snippet → (∃ k, (s.snips.slots.get k).state = .free) → held + 2 - 96 ≤ victims →
        (∀ g, s.snips.feed.signals.head? = some g → r.pick.onset.idx < g.after) →
        ∃ u k, s.makeRoom i 2 = some u ∧ (u.snips.slots.get k).state = .free ∧
          (∀ j, j < k → (u.snips.slots.get j).state ≠ .free) ∧
          exec .queueArrival s = .next ((({ u with outbox := rest } : State).takeSlot k r.pick).putQueue i
            ((u.queues.get i).accept [.pick r, .item k 0]))

/-- QSET (R129, R130, R131, R133): a queue number above 3 is refused SLOT, and without one nothing applies; else the fields that arrived are stored
at their nearest limits, a running timer that has reached the new hold time expires, the queue becomes ready by the new values while it
holds records, and it makes its starvation test. -/
def Obligations.QsetAppliesToItsQueue : Prop :=
  ∀ (s : State) (m : InMsg), s.decodes m → m.code = 0x11 →
    let fs := takeFields [1, 1, 2] m.body
    (fs[0]? = none → exec .qset s = .next (s.popMessage.reply (.ackn 0x11 false m.isBroken 0))) ∧
    (∀ v, fs[0]? = some v → 4 ≤ v → exec .qset s = .next (s.popMessage.reply (.rfsd 0x11 .slot))) ∧
    ∀ i : Fin 4, fs[0]? = some i.val →
      let x := s.queues.get i
      let batch := (fs[1]?.map fun v => max 1 (min 32 v)).getD x.batch
      let hold := (fs[2]?.map fun v => min 10000 v).getD x.hold
      ∃ (y : Queue) (clamped : Bool),
        exec .qset s = .next ((s.popMessage.putQueue i y).reply (.ackn 0x11 clamped m.isBroken fs.length)) ∧
        (clamped = true ↔ (∃ v, fs[1]? = some v ∧ (v < 1 ∨ 32 < v)) ∨ ∃ v, fs[2]? = some v ∧ 10000 < v) ∧
        ((∃ n, x.timer = .running n ∧ hold ≠ 0 ∧ hold ≤ n) →
          y = { x with batch := batch, hold := hold, timer := .expired, ready := x.ready || !x.records.isEmpty }) ∧
        ((∀ n, x.timer = .running n → hold = 0 ∨ n < hold) →
          y = { x with
            batch := batch, hold := hold
            ready := x.ready || (decide (batch ≤ x.records.length ∨ hold = 0) && !x.records.isEmpty) })

/-- GRNT and QRST, R128 and R137: a message that is broken or too short is refused SHORT, a queue number above 3 SLOT. A grant of n, 0 being
taken as 1, raises the credits to at most 255 and ends the starvation episode, CLAMPED where n was raised or the count capped; the queue
then has credit, so its eligibility test raises nothing. QRST removes every record and frees the slots of its snippet items (that every
field of a freed slot takes its reset value is log 18, the model's choice), sets the
credits to 0, stops the timer and clears ready, starved and loss note; batch level, hold time, pool_lost and every other queue stand. -/
def Obligations.GrantRaisesCreditsAndQrstEmpties : Prop :=
  ∀ (s : State) (m : InMsg), s.decodes m →
    (m.code = 0x12 →
      (m.status = .broken ∨ m.body.length < 2 → exec .grnt s = .next (s.popMessage.reply (.rfsd 0x12 .short))) ∧
      ∀ a b rest, m.status = .complete → m.body = a :: b :: rest →
        (3 < a.toNat → exec .grnt s = .next (s.popMessage.reply (.rfsd 0x12 .slot))) ∧
        ∀ i : Fin 4, a.toNat = i.val →
          let x := s.queues.get i
          let n := max 1 b.toNat
          exec .grnt s = .next (({ s.popMessage with queues := s.queues.set i { x with
            credits := min 255 (x.credits + n), starved := false } }).reply
              (.ackn 0x12 (decide (b.toNat = 0 ∨ 255 < x.credits + n)) false 2))) ∧
    (m.code = 0x13 →
      (m.status = .broken ∨ m.body.length = 0 → exec .qrst s = .next (s.popMessage.reply (.rfsd 0x13 .short))) ∧
      ∀ a rest, m.status = .complete → m.body = a :: rest →
        (3 < a.toNat → exec .qrst s = .next (s.popMessage.reply (.rfsd 0x13 .slot))) ∧
        ∀ i : Fin 4, a.toNat = i.val →
          let x := s.queues.get i
          ∃ slots : Eight SnipSlot,
            exec .qrst s = .next (({ s.popMessage with
              queues := s.queues.set i { x with
                records := [], credits := 0, timer := .stopped, expiry := false, ready := false, starved := false
                lossNote := false }
              snips := { s.snips with slots := slots } }).reply (.ackn 0x13 false false 1)) ∧
            ∀ n, ((∃ k, Record.item n k ∈ x.records) → slots.get n = SnipSlot.reset) ∧
              ((∀ k, Record.item n k ∉ x.records) → slots.get n = s.snips.slots.get n))

/-- LOCAL_TICK and HOLD_TIMER_EXPIRY (R129 to R132, R192): every running timer gains one, up to 10000, and expires when it reaches a hold time
above 0; a stopped or expired one stands. The queue takes the expiry as an event of its own (log 15): it becomes ready while it holds
records and makes its starvation test. A grant taken before the expiry leaves no STARVED behind; one taken after it ends the episode that
the expiry began. -/
def Obligations.HoldTimersRunInLocalTime : Prop :=
  (∀ s : State, s.resetLow = false → ∃ queues : Four Queue,
    exec .localTick s = .next { s with localTime := s.localTime + 1, queues := queues } ∧
    ∀ i, let x := s.queues.get i
      (∀ n, x.timer = .running n → x.hold ≠ 0 → x.hold ≤ min 10000 (n + 1) →
        queues.get i = { x with timer := .expired, expiry := true }) ∧
      (∀ n, x.timer = .running n → x.hold = 0 ∨ min 10000 (n + 1) < x.hold →
        queues.get i = { x with timer := .running (min 10000 (n + 1)) }) ∧
      ((∀ n, x.timer ≠ .running n) → queues.get i = x)) ∧
  (∀ (s : State) (i : Fin 4), s.resetLow = false →
    let x := s.queues.get i
    (x.expiry = true → exec (.holdTimerExpiry i.val) s =
      .next (s.putQueue i { x with expiry := false, ready := x.ready || !x.records.isEmpty })) ∧
    (x.expiry = false → exec (.holdTimerExpiry i.val) s = .next s)) ∧
  (∀ (s : State) (q : Nat), 4 ≤ q → exec (.holdTimerExpiry q) s = .next s) ∧
  ∀ (s : State) (m : InMsg) (i : Fin 4) (b : Byte), s.decodes m → m.code = 0x12 → m.status = .complete →
    m.body = [BitVec.ofNat 8 i.val, b] → (s.queues.get i).expiry = true → (s.queues.get i).records ≠ [] →
    (s.queues.get i).credits = 0 → (s.queues.get i).ready = false → (s.queues.get i).starved = false →
    (∃ t u, exec .grnt s = .next t ∧ exec (.holdTimerExpiry i.val) t = .next u ∧ (u.queues.get i).ready = true ∧
      0 < (u.queues.get i).credits ∧ (u.queues.get i).starved = false ∧ u.link.notices = s.link.notices) ∧
    ∃ t u, exec (.holdTimerExpiry i.val) s = .next t ∧ exec .grnt t = .next u ∧ (t.queues.get i).starved = true ∧
      (u.queues.get i).ready = true ∧ 0 < (u.queues.get i).credits ∧ (u.queues.get i).starved = false ∧
      u.link.notices = raiseNotice s.link.notices (.starved i)

/-! ## The Snippet Store (chapter 7) -/

/-- What a slot holds when it is taken (R142 to R146): the settings in force, and a run of ring triples that begins at most `pre` triples before
the onset (fewer where a DISC triple or the oldest held comes first), crosses no DISC triple after its first, and ends below the number of
triples written, or below the boundary when the onset was written before it. It is complete when it has its planned length; a late one that
has not is cut at once (log 22). A slot taken for a pick holds that capture, every other slot stands, and snippet_cut gains one exactly
when the capture was cut (R142, R145, R150). -/
def Obligations.SlotIsCapturedFromTheRing : Prop :=
  (∀ (st : SnippetStore) (r : Ring) (p : Pick), r.oldest ≤ p.onset.idx → 1 ≤ st.settings.post →
    let x := (st.capture r p).1
    let late := ∃ b, st.boundary = some b ∧ p.onset.idx < b
    let start := p.onset.idx - x.preCount
    let c := x.triples.length
    x.pick = p.number ∧ x.pre = st.settings.pre ∧ x.post = st.settings.post ∧ x.size = st.settings.size ∧ x.onset = p.onset ∧
      x.preCount ≤ st.settings.pre ∧ r.oldest ≤ start ∧
      (x.preCount = st.settings.pre ∨ start = r.oldest ∨ (r.read start).disc = true) ∧
      x.preCount ≤ c ∧ c ≤ x.preCount + x.post ∧
      (∀ k t, x.triples[k]? = some t → t = ⟨(r.read (start + k)).raw, (r.read (start + k)).time⟩ ∧
        (k ≠ 0 → (r.read (start + k)).disc = false)) ∧
      (∀ k, x.preCount ≤ k → k < c → start + k < r.written ∨ late) ∧
      (∀ b k, st.boundary = some b → p.onset.idx < b → x.preCount ≤ k → k < c → start + k < b) ∧
      (c = x.preCount + x.post ∨ (c ≠ 0 ∧ (r.read (start + c)).disc = true) ∨ (¬late ∧ r.written ≤ start + c) ∨
        ∃ b, st.boundary = some b ∧ p.onset.idx < b ∧ b ≤ start + c) ∧
      (x.complete = true ↔ c = x.preCount + x.post ∨ late) ∧ (x.cut = true ↔ late ∧ c < x.preCount + x.post) ∧
      (x.complete = true → x.length = c ∧ x.state = .ready) ∧ (x.complete = false → x.state = .filling) ∧
      (st.capture r p).2 = x.cut) ∧
  ∀ (s : State) (n : Fin 8) (p : Pick), ∃ slots : Eight SnipSlot,
    s.takeSlot n p = { s with
      snips := { s.snips with slots := slots }
      counters := { s.counters with
        snippetCut := if (s.snips.capture s.ring p).2 = true then min 4294967295 (s.counters.snippetCut + 1)
          else s.counters.snippetCut } } ∧
    slots.get n = (s.snips.capture s.ring p).1 ∧ ∀ k, k ≠ n → slots.get k = s.snips.slots.get k

/-- SNIPPET_TRIPLE and SNIPPET_DISCONTINUITY (R146, R150, R151): the slots still capturing whose next triple it is copy it, and are complete at
their planned length; a DISC triple cuts them instead. A signal of any cause cuts every slot still capturing and sets the boundary to the
newest triple written. A cut fixes the length at what is captured and counts in snippet_cut; a FILLING slot becomes READY, a SENDING one
stays. The last block to take FLUSH lets the ACKN be placed (R180). -/
def Obligations.SnippetStoreCopiesAndCuts : Prop :=
  ∀ (s : State), s.resetLow = false → s.counters.snippetCut ≤ 4294967295 →
    let cut (x : SnipSlot) : SnipSlot := { x with
      length := x.triples.length, complete := true, cut := true, state := if x.state = .filling then .ready else x.state }
    let capturing (n : Fin 8) : Bool := (s.snips.slots.get n).state != .free && !(s.snips.slots.get n).complete
    let counted (k : Nat) : Counters := { s.counters with snippetCut := min 4294967295 (s.counters.snippetCut + k) }
    (s.snips.feed.tripleReady s.ring = true →
      let idx := s.snips.feed.taken
      let t := s.ring.read idx
      let takes (n : Fin 8) : Bool := let x := s.snips.slots.get n
        capturing n && x.onset.idx - x.preCount + x.triples.length == idx
      ∃ slots : Eight SnipSlot,
        exec .snippetTriple s = .next { s with
          snips := { s.snips with feed := { s.snips.feed with taken := idx + 1 }, slots := slots }
          counters := counted (slotNumbers.countP fun n => takes n && t.disc) } ∧
        ∀ n, let x := s.snips.slots.get n
          let y : SnipSlot := { x with triples := x.triples ++ [⟨t.raw, t.time⟩] }
          (takes n = false → slots.get n = x) ∧
          (takes n = true → t.disc = true → slots.get n = cut x) ∧
          (takes n = true → t.disc = false →
            (x.triples.length + 1 = x.preCount + x.post → slots.get n = { y with
              length := x.preCount + x.post, complete := true, state := if x.state = .filling then .ready else x.state }) ∧
            (x.triples.length + 1 ≠ x.preCount + x.post → slots.get n = y))) ∧
    ∀ c, s.snips.feed.signalReady = some c →
      ∃ slots : Eight SnipSlot,
        exec .snippetDiscontinuity s = .next ({ s with
          snips := { s.snips with
            feed := { s.snips.feed with signals := s.snips.feed.signals.tail }, slots := slots, boundary := some s.ring.written }
          counters := counted (slotNumbers.countP capturing) } : State).finishFlush ∧
        ∀ n, slots.get n = if capturing n then cut (s.snips.slots.get n) else s.snips.slots.get n

/-! ## The link (chapter 8) -/

/-- LINK_CHARACTER while the receiver looks for a start bit (R157 to R160). An opener other than HOLD and GO breaks a message in progress and
begins one; a data character is its length (0 completes it, above 250 breaks it) or a body byte, and between messages a stray. A character
for a full buffer is discarded, counted in link_overrun, and breaks the message. A stop bit at space is a framing error, counted, and breaks
the message; nine zero bits with one are not judged yet (log 12). While the receiver waits for mark or is undecided nothing is taken. -/
def Obligations.LinkCharacterBuildsMessages : Prop :=
  (∀ (s : State) (front : List InMsg) (m : InMsg), s.link.inbox = front ++ [m] → m.status = .inProgress →
    s.breakMessage = { s with
      link := { s.link with inbox := front ++ [{ m with status := .broken }] }
      counters := { s.counters with linkBrokenMessages := min 4294967295 (s.counters.linkBrokenMessages + 1) } }) ∧
  (∀ s : State, (∀ m, s.link.inbox.getLast? = some m → m.status ≠ .inProgress) → s.breakMessage = s) ∧
  ∀ (s : State) (b : Byte), s.resetLow = false →
    (s.link.watch ≠ .looking → ∀ mark stop, exec (.linkCharacter mark b stop) s = .next s) ∧
    (s.link.watch = .looking →
      let s1 := s.breakMessage
      let overrun (u : State) : State := { u with
        counters := { u.counters with linkOverrun := min 4294967295 (u.counters.linkOverrun + 1) } }
      (b ≠ 0xFE → b ≠ 0xFF →
        (s.link.fill < 256 → exec (.linkCharacter true b true) s = .next { s1 with
          link := ({ s1.link with inbox := s1.link.inbox ++ [⟨b, none, [], .inProgress⟩] } : LinkPort).afterStore }) ∧
        (256 ≤ s.link.fill → exec (.linkCharacter true b true) s = .next (overrun s1))) ∧
      ((∀ m, s.link.inbox.getLast? = some m → m.status ≠ .inProgress) → exec (.linkCharacter false b true) s = .next s) ∧
      (∀ front m, s.link.inbox = front ++ [m] → m.status = .inProgress →
        let now (m' : InMsg) : State := { s with
          link := ({ s.link with inbox := front ++ [m'] } : LinkPort).afterStore
          counters := if m'.status = .broken then
            { s.counters with linkBrokenMessages := min 4294967295 (s.counters.linkBrokenMessages + 1) } else s.counters }
        (256 ≤ s.link.fill → exec (.linkCharacter false b true) s = .next (overrun s).breakMessage) ∧
        (s.link.fill < 256 → m.length = none → exec (.linkCharacter false b true) s = .next (now { m with
          length := some b.toNat
          status := if b.toNat = 0 then .complete else if 250 < b.toNat then .broken else .inProgress })) ∧
        ∀ n, s.link.fill < 256 → m.length = some n → exec (.linkCharacter false b true) s = .next (now { m with
          body := m.body ++ [b], status := if n ≤ m.body.length + 1 then .complete else .inProgress })) ∧
      (∀ mark, mark = true ∨ b ≠ 0 → exec (.linkCharacter mark b false) s = .next ({ s with
        counters := { s.counters with linkFramingErrors := min 4294967295 (s.counters.linkFramingErrors + 1) } } : State).breakMessage) ∧
      exec (.linkCharacter false 0 false) s = .next { s with link := { s.link with watch := .undecided } })

/-- The line and flow control in both directions. LINE_BREAK breaks a message in progress, is no framing error, and leaves the receiver waiting
for mark; LINE_RETURNS_TO_MARK makes it look again (R157). That an all-zero character is undecided until then, and a framing error when the
line returns, is the model's reading of R157 (log 12). HOLD sets and GO clears the
peer HOLD state, in the commands PEER_HOLD and PEER_GO or as the characters 0xFE and 0xFF (R158, R167, log 20). At a fill of 192 the own
HOLD state is set and a HOLD placed, at 64 it is cleared and a GO placed, a flow character not yet sent being withdrawn instead (R161).
OWN_HOLD and OWN_GO send the waiting one between characters, whatever the peer HOLD state; CHARACTER_BOUNDARY ends the character being sent,
and the next of the message begins unless a flow character waits or the peer HOLD state is set (R173, log 14). A decoded message leaves
the buffer, and a reply is placed at the tail of the reply queue (R160, R162). -/
def Obligations.LineEventsAndFlowControl : Prop :=
  let goes (l : LinkPort) : LinkPort := match l.rest with
    | [] => l
    | c :: cs => { l with current := some c, rest := cs }
  (∀ l : LinkPort,
    (l.current = none → l.flow = none → l.peerHold = false → l.resume = goes l) ∧
    (l.current ≠ none ∨ l.flow ≠ none ∨ l.peerHold = true → l.resume = l) ∧
    (l.ownHold = false → 192 ≤ l.fill →
      (l.flow = some .go → l.afterStore = { l with ownHold := true, flow := none }.resume) ∧
      (l.flow ≠ some .go → l.afterStore = { l with ownHold := true, flow := some .hold })) ∧
    (l.ownHold = true ∨ l.fill < 192 → l.afterStore = l) ∧
    (l.ownHold = true → l.fill ≤ 64 →
      (l.flow = some .hold → l.afterDecode = { l with ownHold := false, flow := none }.resume) ∧
      (l.flow ≠ some .hold → l.afterDecode = { l with ownHold := false, flow := some .go })) ∧
    (l.ownHold = false ∨ 64 < l.fill → l.afterDecode = l)) ∧
  (∀ (s : State) (r : Reply), s.reply r = { s with link := { s.link with replies := s.link.replies ++ [r] } }) ∧
  (∀ s : State, s.popMessage = { s with link := ({ s.link with inbox := s.link.inbox.tail }).afterDecode }) ∧
  ∀ s : State, s.resetLow = false →
    let looking (u : State) : State := { u with link := { u.link with watch := .looking } }
    (s.link.watch ≠ .awaitMark →
      exec .lineBreak s = .next { s.breakMessage with link := { s.breakMessage.link with watch := .awaitMark } }) ∧
    (s.link.watch = .awaitMark →
      exec .lineBreak s = .next s ∧ exec .lineReturnsToMark s = .next (looking s)) ∧
    (s.link.watch = .undecided → exec .lineReturnsToMark s = .next (looking ({ s with
      counters := { s.counters with linkFramingErrors := min 4294967295 (s.counters.linkFramingErrors + 1) } } : State).breakMessage)) ∧
    (s.link.watch = .looking → exec .lineReturnsToMark s = .next s ∧
      (let held : State := { s with link := { s.link with peerHold := true } }
       let gone : State := { s with link := { s.link with peerHold := false }.resume }
       exec .peerHold s = .next held ∧ exec (.linkCharacter true 0xFE true) s = .next held ∧
       exec .peerGo s = .next gone ∧ exec (.linkCharacter true 0xFF true) s = .next gone)) ∧
    (s.link.watch ≠ .looking → exec .peerHold s = .next s ∧ exec .peerGo s = .next s) ∧
    (s.link.current = none → s.link.flow = some .hold →
      exec .ownHold s = .next { s with link := { s.link with current := some ⟨true, 0xFE⟩, flow := none } }) ∧
    (s.link.current = none → s.link.flow = some .go →
      exec .ownGo s = .next { s with link := { s.link with current := some ⟨true, 0xFF⟩, flow := none } }) ∧
    (s.link.current ≠ none ∨ s.link.flow ≠ some .hold → exec .ownHold s = .next s) ∧
    (s.link.current ≠ none ∨ s.link.flow ≠ some .go → exec .ownGo s = .next s) ∧
    (s.link.current ≠ none → exec .characterBoundary s = .next { s with link := { s.link with current := none }.resume }) ∧
    (s.link.current = none → exec .characterBoundary s = .next s)

/-- FLSH, STAT and CNTR with their whole body (R17, R126, R180 to R182). FLSH notes that the next triple begins a run and raises the signal FLUSH,
which reaches each of the six readers behind the signals it has not taken; its ACKN is placed when no reader holds the FLUSH signal any
more. STAT composes an STRP of the state as it stands, once both detectors stand between two treatments, and changes nothing. CNTR reports
every counter, clears them when asked, and clears the four loss notes in either case. The model's choices here: that the decoder is held
busy until the last reader has taken FLUSH, and that the ACKN falls in that reader's step (log 10); that STAT waits while a detector has
the second half of a triple due (logs 4 and 25). -/
def Obligations.FlshStatAndCntrOverTheWholePart : Prop :=
  (∀ (s : State) (c : Cause),
    (s.raiseSignal c).feeds = s.feeds.map (fun f => { f with signals := f.signals ++ [⟨c, s.ring.written⟩] }) ∧
    ∃ f1 f2 f3 f4 f5 f6, s.raiseSignal c = { s with
      detV := { s.detV with feed := f1 }, detH := { s.detH with feed := f2 }, onset := { s.onset with feed := f3 }
      bank := { s.bank with feed := f4 }, assoc := { s.assoc with feed := f5 }, snips := { s.snips with feed := f6 } }) ∧
  (∀ s : State,
    (s.flushing = true → (∀ f ∈ s.feeds, ∀ g ∈ f.signals, g.cause ≠ .flush) →
      s.finishFlush = { s with
        flushing := false, link := { s.link with replies := s.link.replies ++ [.ackn 0x02 false false 0] } }) ∧
    ((s.flushing = false ∨ ∃ f ∈ s.feeds, ∃ g ∈ f.signals, g.cause = .flush) → s.finishFlush = s)) ∧
  ∀ (s : State) (m : InMsg), s.decodes m → m.status = .complete →
    (m.code = 0x02 → exec .flsh s = .next { s.popMessage.raiseSignal .flush with
      flushing := true, port := { s.port with flushNote := true } }) ∧
    (m.code = 0x03 →
      (s.detV.due = none → s.detH.due = none → ∃ r : StatusReport, exec .stat s = .next (s.popMessage.reply (.strp r)) ∧
        r.input = s.port.input ∧ r.lastTime = (match s.ring.held with | [] => 0 | t :: _ => t.time) ∧
        r.stateV = s.detV.state ∧ r.ratioV = s.detV.ratio ∧ r.stateH = s.detH.state ∧ r.ratioH = s.detH.ratio ∧
        r.pending = s.onset.table.length ∧ r.events = s.assoc.events.length ∧
        (∀ q, r.records.get q = (s.queues.get q).records.length ∧ r.credits.get q = (s.queues.get q).credits) ∧
        ∀ n, r.snips.get n = (s.snips.slots.get n).state ∧ r.sigs.get n = (s.bank.slots.get n).state) ∧
      (s.detV.due ≠ none ∨ s.detH.due ≠ none → exec .stat s = .next s)) ∧
    (m.code = 0x04 → ∀ b rest, m.body = b :: rest → ∃ (queues : Four Queue) (counters : Counters),
      exec .cntr s = .next (({ s.popMessage with queues := queues, counters := counters }).reply
        (.cntp (decide (b ≠ 0)) s.counters)) ∧
      (b = 0 → counters = s.counters) ∧ (b ≠ 0 → ∀ k ∈ counters.list, k = 0) ∧
      ∀ q, queues.get q = { s.queues.get q with lossNote := false })

/-- The outbound arbiter (R166, R168 to R172, R184 to R187): at a message boundary, with the line free, it takes REDY, else the oldest reply, which
frees its place, else the oldest notice, whose place is emptied. The message starts with its opener and is followed by its length and body.
While the line is not free nothing is taken, and a kind lower in the order waits while a higher one stands. A notice raised while it is
pending counts one more, up to 255, and keeps its place; else it is the newest. That a flow character which waits holds the arbiter back is
the model's choice, since R173 sends it at the next character boundary (log 14). -/
def Obligations.ArbiterSendsNoticesAndRepliesFirst : Prop :=
  (∀ (ns : List PendingNotice) (n : Notice),
    ((∀ p ∈ ns, p.notice ≠ n) → raiseNotice ns n = ns ++ [⟨n, 1⟩]) ∧
    ((∃ p ∈ ns, p.notice = n) → raiseNotice ns n =
      ns.map fun p => if p.notice = n then { p with count := min 255 (p.count + 1) } else p)) ∧
  ∀ s : State, s.resetLow = false →
    let started (l : LinkPort) (code : Byte) (body : List Byte) : Host.Outcome State Fault Refusal := .next { s with link := { l with
      current := some ⟨true, code⟩, rest := ⟨false, BitVec.ofNat 8 body.length⟩ :: body.map fun b => ⟨false, b⟩ } }
    let idle := s.link.current = none ∧ s.link.rest = [] ∧ s.link.flow = none ∧ s.link.peerHold = false
    let lower : List Instr := [.note, .pick, .evnt, .segm]
    let named (n : Notice) : List Byte := match n with
      | .inputFound => [1, 0]
      | .inputLost => [2, 0]
      | .starved q => [3, BitVec.ofNat 8 q.val]
      | .poolLoss q => [4, BitVec.ofNat 8 q.val]
    (¬idle → ∀ c ∈ [.redy, .ackn, .rfsd, .strp, .cntp] ++ lower, exec c s = .next s) ∧
    (idle →
      (∀ c, s.link.redy = some c →
        exec .redy s = started { s.link with redy := none } 0x49 [1, (match c with | .pin => 1 | .command => 2 : Byte)] ∧
        ∀ i ∈ [.ackn, .rfsd, .strp, .cntp] ++ lower, exec i s = .next s) ∧
      (s.link.redy = none → exec .redy s = .next s ∧
        (∀ r rs, s.link.replies = r :: rs →
          let l := { s.link with replies := rs }
          (∀ c clamped cut count, r = .ackn c clamped cut count → exec .ackn s = started l 0x41
            (c :: field 1 ((if clamped = true then 1 else 0) + (if cut = true then 2 else 0)) ++ field 1 count)) ∧
          (∀ c reason, r = .rfsd c reason → exec .rfsd s = started l 0x42
            [c, (match reason with | .unknown => 1 | .short => 2 | .state => 3 | .slot => 4 : Byte)]) ∧
          (∀ x, r = .strp x → exec .strp s = started l 0x43 x.body) ∧
          (∀ cleared c, r = .cntp cleared c → exec .cntp s = started l 0x44
            ((if cleared = true then 1 else 0) :: c.list.flatMap (field 4))) ∧
          ∀ i ∈ lower, exec i s = .next s) ∧
        (s.link.replies = [] → (∀ i ∈ [.ackn, .rfsd, .strp, .cntp], exec i s = .next s) ∧
          ∀ n ns, s.link.notices = n :: ns →
            exec .note s = started { s.link with notices := ns } 0x48
              (named n.notice ++ field 1 n.count) ∧
            ∀ i ∈ [.pick, .evnt, .segm], exec i s = .next s)))

/-- PICK, EVNT and SEGM (R130, R134, R135, R147, R148, R152, R172): with the line free and no reply or notice waiting, the lowest-numbered queue that
is ready, has credit, and whose head can be sent gives its head. A PICK or EVNT leaves the queue; a snippet item gives its next segment when
that is available, its slot is SENDING, and with LAST the item leaves and the slot is FREE. A credit is spent, an emptied queue is untimed
and not ready, and the queue makes its starvation test. With no queue offering nothing is taken. At LAST every field of the slot takes its
reset value: R152 says FREE, the rest is the model's choice (log 18). -/
def Obligations.ArbiterServesTheLowestOfferingQueue : Prop :=
  (∀ (s : State) (i : Fin 4) (r : Record), s.offered i = some r ↔
    (s.queues.get i).ready = true ∧ 0 < (s.queues.get i).credits ∧ (s.queues.get i).records.head? = some r ∧
      ∀ n k, r = .item n k → (s.snips.slots.get n).available k = true) ∧
  (∀ (x : SnipSlot) (k : Nat),
    let last := if x.cut = true then x.length / x.size else (x.length + x.size - 1) / x.size - 1
    (x.available k = true ↔ (k + 1) * x.size ≤ x.triples.length ∨ (x.complete = true ∧ k = last)) ∧
    (x.isLast k = true ↔ x.complete = true ∧ k = last)) ∧
  ∀ (s : State), s.resetLow = false → s.link.current = none → s.link.rest = [] → s.link.flow = none → s.link.peerHold = false →
    s.link.redy = none → s.link.replies = [] → s.link.notices = [] →
    ((∀ i, s.offered i = none) → exec .pick s = .next s ∧ exec .evnt s = .next s ∧ exec .segm s = .next s) ∧
    ∀ (i : Fin 4) (r : Record) (rs : List Record), (∀ j, j < i → s.offered j = none) → s.offered i = some r →
      (s.queues.get i).records = r :: rs →
      let x := s.queues.get i
      let paid : Queue := { x with
        records := rs, credits := x.credits - 1
        timer := if rs = [] then .stopped else x.timer, expiry := if rs = [] then false else x.expiry
        ready := if rs = [] then false else x.ready }
      let sent (u : State) (code : Byte) (body : List Byte) : Host.Outcome State Fault Refusal := .next { u with link := { u.link with
        current := some ⟨true, code⟩, rest := ⟨false, BitVec.ofNat 8 body.length⟩ :: body.map fun b => ⟨false, b⟩ } }
      (∀ p, r = .pick p → exec .pick s = sent (s.putQueue i paid) 0x50 p.body) ∧
      (∀ e, r = .evnt e → exec .evnt s = sent (s.putQueue i paid) 0x51 e.body) ∧
      ∀ n k, r = .item n k →
        let y := s.snips.slots.get n
        let slot (z : SnipSlot) : State := { s with snips := { s.snips with slots := s.snips.slots.set n z } }
        (y.isLast k = true → exec .segm s = sent ((slot .reset).putQueue i paid) 0x52 (y.segmentBody k)) ∧
        (y.isLast k = false → exec .segm s = sent ((slot { y with state := .sending }).putQueue i
          { x with records := .item n (k + 1) :: rs, credits := x.credits - 1 }) 0x52 (y.segmentBody k))

/-- The bodies of the outbound messages, field by field (R149, R183, R186 to R190): the field of each offset carries its number, most
significant byte first, where the number fits in it (where it does not, the bytes are free: log 7). PICK has 37 bytes and its optional
parts in order of presence bit, EVNT 14 and its, STRP 39, CNTP 97 with the counters in their order, and SEGM 11 and nine for each triple
it carries, which are the slot's own in order, so that the segments together carry the snippet. -/
def Obligations.MessageBodiesHaveTheirLayout : Prop :=
  let flag (b : Bool) (v : Nat) : Nat := if b = true then v else 0
  ((∀ n v, v < 256 ^ n → (field n v).length = n ∧ beVal (field n v) = v) ∧
    ∀ x : Int, isCount x → (signedField 3 x).length = 3 ∧ signed24 (beVal (signedField 3 x)) = x) ∧
  (∀ r : PickReport,
    let p := r.pick
    let b := r.body
    let phase (ph : Phase) : Nat := match ph with | .p => 0 | .s => 1 | .x => 2
    let atPick := 37 + flag p.confirmedBy.isSome 1
    let atScore := atPick + flag p.coincident.isSome 2
    b.length = atScore + flag p.score.isSome 2 ∧
    carries b 0 2 p.number ∧ carries b 2 1 (match p.kind with | .primary => 0 | .secondary => 1 | .signature => 2) ∧
    carries b 3 1 (match p.source with | .detector .v => 0 | .detector .h => 1 | .slot n => 8 + n.val) ∧
    carries b 4 1 (phase p.phase) ∧ carries b 5 1 (phase p.classification) ∧ carries b 6 6 p.onset.time ∧
    carries b 12 6 p.triggerTime ∧ carries b 18 1 p.grade ∧
    carries b 19 1 (match p.polarity with | .unclear => 0 | .up => 1 | .down => 2) ∧ carries b 20 2 p.snr16 ∧
    carries b 22 2 p.hv16 ∧ carries b 24 3 p.peakAmplitude ∧
    carries b 27 1 (match p.peakComponent with | .z => 0 | .n => 1 | .e => 2) ∧ carries b 28 1 p.peakOffset ∧
    carries b 29 2 p.measured ∧ carries b 31 2 r.event ∧
    carries b 33 1 (match r.role with | .none => 0 | .p => 1 | .s => 2 | .duplicate => 3 | .member => 4) ∧
    carries b 34 2 (flag p.edge 0x0001 + flag p.clipped 0x0002 + flag p.filled 0x0004 + flag p.gapCause.isSome 0x0008 +
      flag p.long 0x0010 + flag p.inverted 0x0020 + flag p.disagree 0x0040 + flag (r.mark == .snippet) 0x0080 +
      flag (r.mark == .lost) 0x0100) ∧
    carries b 36 1 (flag p.confirmedBy.isSome 1 + flag p.coincident.isSome 2 + flag p.score.isSome 4) ∧
    (∀ n, p.confirmedBy = some n → carries b 37 1 n.val) ∧ (∀ n, p.coincident = some n → carries b atPick 2 n) ∧
    ∀ x : Int, p.score = some x → -32768 ≤ x → x ≤ 32767 → carries b atScore 2 (if x < 0 then x + 65536 else x).toNat) ∧
  (∀ r : EventReport,
    let b := r.body
    let atS := 14 + flag r.p.isSome 8
    let atSp := atS + flag r.s.isSome 8
    b.length = atSp + flag r.sp.isSome 2 ∧
    carries b 0 2 r.number ∧ carries b 2 1 (flag r.cause.isSome 1) ∧
    carries b 3 1 (match r.cause with
      | none => 0
      | some .quiet => 1
      | some .full => 2
      | some .flush => 3
      | some .gap => 4
      | some .time => 5) ∧
    carries b 4 6 r.first ∧ carries b 10 2 r.count ∧ carries b 12 1 (flag r.sFirst 1 + flag r.pAdopted 2) ∧
    carries b 13 1 (flag r.p.isSome 1 + flag r.s.isSome 2 + flag r.sp.isSome 4) ∧
    (∀ m, r.p = some m → carries b 14 2 m.number ∧ carries b 16 6 m.onset) ∧
    (∀ m, r.s = some m → carries b atS 2 m.number ∧ carries b (atS + 2) 6 m.onset) ∧
    ∀ n, r.sp = some n → carries b atSp 2 n) ∧
  (∀ r : StatusReport,
    let b := r.body
    let state (x : DetState) : Nat := match x with | .off => 0 | .warmup => 1 | .quiet => 2 | .triggered => 3 | .recovery => 4
    b.length = 39 ∧ carries b 0 1 (match r.input with | .stopped => 0 | .hunting => 1 | .running => 2) ∧
    carries b 1 6 r.lastTime ∧ carries b 7 1 (state r.stateV) ∧ carries b 8 2 r.ratioV ∧ carries b 10 1 (state r.stateH) ∧
    carries b 11 2 r.ratioH ∧ carries b 13 1 r.pending ∧ carries b 14 1 r.events ∧
    (∀ q, carries b (15 + q.val) 1 (r.records.get q) ∧ carries b (19 + q.val) 1 (r.credits.get q)) ∧
    ∀ n, carries b (23 + n.val) 1 (match r.snips.get n with | .free => 0 | .filling => 1 | .ready => 2 | .sending => 3) ∧
      carries b (31 + n.val) 1 (match r.sigs.get n with | .empty => 0 | .loading => 1 | .active => 2)) ∧
  (∀ (cleared : Bool) (c : Counters),
    let b := (Reply.cntp cleared c).body
    b.length = 97 ∧ carries b 0 1 (flag cleared 1) ∧
    ∀ i v, [c.blocksGood, c.blocksBadCount, c.blocksBadCheck, c.blocksWrongStream, c.blocksDuplicate, c.gapsFilled, c.gapsLong,
        c.timeBackward, c.pickOverrun, c.glitches, c.picksMerged, c.pendingFlushed, c.signatureMatches, c.eventsForced,
        c.routeDiscards, c.snippetLost, c.poolLost.get 0, c.poolLost.get 1, c.poolLost.get 2, c.poolLost.get 3, c.snippetCut,
        c.linkFramingErrors, c.linkBrokenMessages, c.linkOverrun][i]? = some v → carries b (1 + 4 * i) 4 v) ∧
  (∀ (x : SnipSlot) (k : Nat),
    let b := x.segmentBody k
    let ts := x.segment k
    b.length = 11 + 9 * ts.length ∧ ts.length ≤ x.size ∧ carries b 0 2 x.pick ∧ carries b 2 1 k ∧
    carries b 3 1 (flag (x.isLast k) 1 + flag (x.isLast k && x.cut) 2) ∧
    (∀ t, ts.head? = some t → carries b 4 6 t.time) ∧
    (∀ t, ts = [] → x.triples.getLast? = some t → carries b 4 6 t.time) ∧ carries b 10 1 ts.length ∧
    ∀ i t, ts[i]? = some t →
      let raw (o : Nat) : Int := signed24 (beVal ((b.drop (o + 9 * i)).take 3))
      (isCount t.raw.z → raw 11 = t.raw.z) ∧ (isCount t.raw.n → raw 14 = t.raw.n) ∧ (isCount t.raw.e → raw 17 = t.raw.e)) ∧
  ∀ (x : SnipSlot) (n : Nat), ((List.range n).flatMap x.segment) = x.triples.take (n * x.size)

/-! ## What every step keeps -/

/-- R51, R99, R100, R120, R123, R160, R162, R168: from every state in which the pool, the tables, the lists, the Route Table, the reply queue and
the inbound buffer hold no more than the spec gives them, every step leads to such a state. (A reply place is kept for the ACKN of an FLSH
still being decoded.) -/
def Obligations.StepsKeepTheStoresBounded : Prop :=
  ∀ s t : State, s.poolBounded → s.tablesBounded → s.repliesBounded → s.inboxBounded → step s = .next t →
    t.poolBounded ∧ t.tablesBounded ∧ t.repliesBounded ∧ t.inboxBounded

/-- R22: the ring holds the newest 4096 triples written, or all of them, and no reader is ahead of the writing or behind the ring. R17: the
signals a reader has still to take stand in the order in which they were raised, and it has treated no triple written after one of them.
R180: while an FLSH is being decoded some reader has still to take its signal (log 10). Every step keeps these.
When a reader may act: it takes its next triple when that has been written and no signal raised before it stands untaken (R17, R22); it takes
its oldest signal once it has taken the triples written before it, and FLUSH also earlier (log 8). Where it may not, or a detector has the
second half of a triple due (log 4), the command of that triple or signal changes nothing (log 3). -/
def Obligations.StepsKeepTheRingAndItsReaders : Prop :=
  (∀ s t : State, step s = .next t →
    (s.ringFull → s.readersInRing → t.ringFull ∧ t.readersInRing) ∧
    (s.readersInRing → s.signalsInOrder → t.signalsInOrder) ∧ (s.flushHeld → t.flushHeld)) ∧
  (∀ (f : Feed) (r : Ring),
    (f.tripleReady r = true ↔ f.taken < r.written ∧ ∀ g, f.signals.head? = some g → f.taken < g.after) ∧
    ∀ c, f.signalReady = some c ↔ ∃ g, f.signals.head? = some g ∧ g.cause = c ∧ (c = .flush ∨ g.after ≤ f.taken)) ∧
  ∀ s : State, s.flushHeld →
    (∀ d : Det,
      ((s.det d).feed.tripleReady s.ring = false ∨ (s.det d).due ≠ none → exec (.detectorTriple d) s = .next s) ∧
      ((s.det d).feed.signalReady = none ∨ (s.det d).feed.signalReady = some .flush ∨ (s.det d).due ≠ none →
        exec (.detectorDiscontinuity d) s = .next s) ∧
      ((s.det d).feed.signalReady ≠ some .flush ∨ (s.det d).due ≠ none → exec (.detectorFlush d) s = .next s)) ∧
    (s.onset.feed.tripleReady s.ring = false → exec .onsetTriple s = .next s) ∧
    (s.onset.feed.signalReady = none ∨ s.onset.feed.signalReady = some .flush → exec .onsetDiscontinuity s = .next s) ∧
    (s.onset.feed.signalReady ≠ some .flush → exec .onsetFlush s = .next s) ∧
    (s.bank.feed.tripleReady s.ring = false → exec .signatureTriple s = .next s) ∧
    (s.bank.feed.signalReady = none ∨ s.bank.feed.signalReady = some .flush → exec .signatureDiscontinuity s = .next s) ∧
    (s.bank.feed.signalReady ≠ some .flush → exec .signatureFlush s = .next s) ∧
    (s.assoc.feed.tripleReady s.ring = false → exec .associationTriple s = .next s) ∧
    (s.assoc.feed.signalReady ≠ some .gap → s.assoc.feed.signalReady ≠ some .stop → exec .associationGap s = .next s) ∧
    (s.assoc.feed.signalReady ≠ some .time → exec .associationTime s = .next s) ∧
    (s.assoc.feed.signalReady ≠ some .flush → exec .associationFlush s = .next s) ∧
    (s.snips.feed.tripleReady s.ring = false → exec .snippetTriple s = .next s) ∧
    (s.snips.feed.signalReady = none → exec .snippetDiscontinuity s = .next s)

/-- R20, R26, R27: conditioned values are 24-bit counts, levels lie within 0..2^46 and ratios within 0..4095; every step keeps this, whatever a
lost ring position reads as (log 6). -/
def Obligations.StepsKeepLevelsInRange : Prop :=
  ∀ s t : State, s.levelsBounded → step s = .next t → t.levelsBounded

/-- R18, R19, R31, R40, R66, R73, R74, R101, R117, R133, R153, R187: numbers stay within 1..65535, counters within 32 bits, and every setting in its
range, pair checks included. -/
def Obligations.StepsKeepNumbersCountersAndSettings : Prop :=
  ∀ s t : State, s.numbersLegal → s.counters.bounded → s.settingsInRange → step s = .next t →
    t.numbersLegal ∧ t.counters.bounded ∧ t.settingsInRange

/-- R28 to R37, R44, R45 (a detector has an episode open exactly in TRIGGERED, and is OFF exactly when disabled), R123, R127, R129 to R131, R135 (the
queues) and R79 to R88, R93 (the signature slots): every step keeps each. -/
def Obligations.StepsKeepDetectorsQueuesAndSlotsSound : Prop :=
  ∀ s t : State, step s = .next t →
    (s.detV.coherent → s.detH.coherent → t.detV.coherent ∧ t.detH.coherent) ∧
    (s.queuesSound → t.queuesSound) ∧ (s.slotsSound → t.slotsSound)

/-- R141, R142: a snippet slot that is not FREE is named by exactly one snippet item, a FREE one by none, and a pick routed with a snippet item finds
a FREE slot; every step keeps this. From such a state no command stops the part. -/
def Obligations.StepsKeepSnippetSlotsOwned : Prop :=
  (∀ s t : State, s.slotsOwned → s.outboxSound → step s = .next t → t.slotsOwned ∧ t.outboxSound) ∧
  ∀ s : State, s.outboxSound → ∃ t, step s = .next t

/-- The state after reset meets every invariant above, and is the state PIN_RESET leaves with both straps low (log 1). -/
def Obligations.ResetMeetsTheInvariants : Prop :=
  State.reset.poolBounded ∧ State.reset.tablesBounded ∧ State.reset.repliesBounded ∧ State.reset.inboxBounded ∧
    State.reset.ringFull ∧ State.reset.readersInRing ∧ State.reset.signalsInOrder ∧ State.reset.flushHeld ∧
    State.reset.levelsBounded ∧ State.reset.numbersLegal ∧ State.reset.counters.bounded ∧ State.reset.settingsInRange ∧
    State.reset.detV.coherent ∧ State.reset.detH.coherent ∧
    State.reset.queuesSound ∧ State.reset.slotsSound ∧ State.reset.slotsOwned ∧ State.reset.outboxSound ∧ State.reset.atReset ∧
    ∀ s : State, exec (.pinReset false false) s = .next { State.reset with pending := s.pending }
end

