-- ==== Sys2Proof/Laws/State.lean ====
section
/-! SUPPORT. What each named update of State leaves in each field, so that no proof unfolds a record update; and the laws of the
fixed families of four queues and eight slots. -/

namespace Sys2Proof

/-! ## Four queues, eight slots -/

@[simp] theorem Four.get_set_self {α : Type} (f : Four α) (i : Fin 4) (a : α) : (f.set i a).get i = a := by
  match i with | 0 => rfl | 1 => rfl | 2 => rfl | 3 => rfl

theorem Four.get_set_ne {α : Type} (f : Four α) {i j : Fin 4} (a : α) (h : j ≠ i) : (f.set i a).get j = f.get j := by
  match i, j with
  | 0, 0 => exact absurd rfl h | 0, 1 => rfl | 0, 2 => rfl | 0, 3 => rfl
  | 1, 0 => rfl | 1, 1 => exact absurd rfl h | 1, 2 => rfl | 1, 3 => rfl
  | 2, 0 => rfl | 2, 1 => rfl | 2, 2 => exact absurd rfl h | 2, 3 => rfl
  | 3, 0 => rfl | 3, 1 => rfl | 3, 2 => rfl | 3, 3 => exact absurd rfl h

theorem Four.get_set {α : Type} (f : Four α) (i j : Fin 4) (a : α) :
    (f.set i a).get j = if j = i then a else f.get j := by
  by_cases h : j = i
  · subst h; simp
  · simp [h, Four.get_set_ne f a h]

@[simp] theorem Four.get_map {α β : Type} (g : α → β) (f : Four α) (i : Fin 4) : (f.map g).get i = g (f.get i) := by
  match i with | 0 => rfl | 1 => rfl | 2 => rfl | 3 => rfl

@[simp] theorem Four.get_all {α : Type} (a : α) (i : Fin 4) : (Four.all a).get i = a := by
  match i with | 0 => rfl | 1 => rfl | 2 => rfl | 3 => rfl

@[simp] theorem Four.set_get_self {α : Type} (f : Four α) (i : Fin 4) : f.set i (f.get i) = f := by
  match i with | 0 => rfl | 1 => rfl | 2 => rfl | 3 => rfl

@[simp] theorem Four.set_set {α : Type} (f : Four α) (i : Fin 4) (a b : α) : (f.set i a).set i b = f.set i b := by
  match i with | 0 => rfl | 1 => rfl | 2 => rfl | 3 => rfl

/-- Two fours that agree queue by queue are equal. -/
theorem Four.ext_get {α : Type} {f g : Four α} (h : ∀ i, f.get i = g.get i) : f = g := by
  obtain ⟨a, b, c, d⟩ := f
  obtain ⟨a', b', c', d'⟩ := g
  have h0 : a = a' := h 0
  have h1 : b = b' := h 1
  have h2 : c = c' := h 2
  have h3 : d = d' := h 3
  subst h0 h1 h2 h3; rfl

@[simp] theorem Eight.get_set_self {α : Type} (f : Eight α) (i : Fin 8) (a : α) : (f.set i a).get i = a := by
  match i with | 0 => rfl | 1 => rfl | 2 => rfl | 3 => rfl | 4 => rfl | 5 => rfl | 6 => rfl | 7 => rfl

theorem Eight.get_set_ne {α : Type} (f : Eight α) {i j : Fin 8} (a : α) (h : j ≠ i) : (f.set i a).get j = f.get j := by
  revert h
  fin_cases i <;> fin_cases j <;> first | (intro h; exact absurd rfl h) | (intro _; rfl)

theorem Eight.get_set {α : Type} (f : Eight α) (i j : Fin 8) (a : α) :
    (f.set i a).get j = if j = i then a else f.get j := by
  by_cases h : j = i
  · subst h; simp
  · simp [h, Eight.get_set_ne f a h]

@[simp] theorem Eight.get_map {α β : Type} (g : α → β) (f : Eight α) (i : Fin 8) : (f.map g).get i = g (f.get i) := by
  match i with | 0 => rfl | 1 => rfl | 2 => rfl | 3 => rfl | 4 => rfl | 5 => rfl | 6 => rfl | 7 => rfl

@[simp] theorem Eight.get_all {α : Type} (a : α) (i : Fin 8) : (Eight.all a).get i = a := by
  match i with | 0 => rfl | 1 => rfl | 2 => rfl | 3 => rfl | 4 => rfl | 5 => rfl | 6 => rfl | 7 => rfl

@[simp] theorem Eight.set_get_self {α : Type} (f : Eight α) (i : Fin 8) : f.set i (f.get i) = f := by
  match i with | 0 => rfl | 1 => rfl | 2 => rfl | 3 => rfl | 4 => rfl | 5 => rfl | 6 => rfl | 7 => rfl

@[simp] theorem Eight.set_set {α : Type} (f : Eight α) (i : Fin 8) (a b : α) : (f.set i a).set i b = f.set i b := by
  match i with | 0 => rfl | 1 => rfl | 2 => rfl | 3 => rfl | 4 => rfl | 5 => rfl | 6 => rfl | 7 => rfl

/-- Two eights that agree slot by slot are equal. -/
theorem Eight.ext_get {α : Type} {f g : Eight α} (h : ∀ i, f.get i = g.get i) : f = g := by
  obtain ⟨a, b, c, d, e, x, y, z⟩ := f
  obtain ⟨a', b', c', d', e', x', y', z'⟩ := g
  have h0 : a = a' := h 0
  have h1 : b = b' := h 1
  have h2 : c = c' := h 2
  have h3 : d = d' := h 3
  have h4 : e = e' := h 4
  have h5 : x = x' := h 5
  have h6 : y = y' := h 6
  have h7 : z = z' := h 7
  subst h0 h1 h2 h3 h4 h5 h6 h7; rfl

namespace Machine

/-! A notice raised changes the notice store alone. -/

@[simp] theorem State.notify_pending (s : State) (n : Notice) : (s.notify n).pending = s.pending := rfl
@[simp] theorem State.notify_resetLow (s : State) (n : Notice) : (s.notify n).resetLow = s.resetLow := rfl
@[simp] theorem State.notify_rate1 (s : State) (n : Notice) : (s.notify n).rate1 = s.rate1 := rfl
@[simp] theorem State.notify_rate0 (s : State) (n : Notice) : (s.notify n).rate0 = s.rate0 := rfl
@[simp] theorem State.notify_localTime (s : State) (n : Notice) : (s.notify n).localTime = s.localTime := rfl
@[simp] theorem State.notify_port (s : State) (n : Notice) : (s.notify n).port = s.port := rfl
@[simp] theorem State.notify_offsets (s : State) (n : Notice) : (s.notify n).offsets = s.offsets := rfl
@[simp] theorem State.notify_ring (s : State) (n : Notice) : (s.notify n).ring = s.ring := rfl
@[simp] theorem State.notify_detV (s : State) (n : Notice) : (s.notify n).detV = s.detV := rfl
@[simp] theorem State.notify_detH (s : State) (n : Notice) : (s.notify n).detH = s.detH := rfl
@[simp] theorem State.notify_onset (s : State) (n : Notice) : (s.notify n).onset = s.onset := rfl
@[simp] theorem State.notify_bank (s : State) (n : Notice) : (s.notify n).bank = s.bank := rfl
@[simp] theorem State.notify_assoc (s : State) (n : Notice) : (s.notify n).assoc = s.assoc := rfl
@[simp] theorem State.notify_outbox (s : State) (n : Notice) : (s.notify n).outbox = s.outbox := rfl
@[simp] theorem State.notify_routes (s : State) (n : Notice) : (s.notify n).routes = s.routes := rfl
@[simp] theorem State.notify_queues (s : State) (n : Notice) : (s.notify n).queues = s.queues := rfl
@[simp] theorem State.notify_snips (s : State) (n : Notice) : (s.notify n).snips = s.snips := rfl
@[simp] theorem State.notify_link (s : State) (n : Notice) : (s.notify n).link = { s.link with notices := raiseNotice s.link.notices n } := rfl
@[simp] theorem State.notify_flushing (s : State) (n : Notice) : (s.notify n).flushing = s.flushing := rfl
@[simp] theorem State.notify_counters (s : State) (n : Notice) : (s.notify n).counters = s.counters := rfl

/-! A reply placed changes the reply queue alone. -/

@[simp] theorem State.reply_pending (s : State) (r : Reply) : (s.reply r).pending = s.pending := rfl
@[simp] theorem State.reply_resetLow (s : State) (r : Reply) : (s.reply r).resetLow = s.resetLow := rfl
@[simp] theorem State.reply_rate1 (s : State) (r : Reply) : (s.reply r).rate1 = s.rate1 := rfl
@[simp] theorem State.reply_rate0 (s : State) (r : Reply) : (s.reply r).rate0 = s.rate0 := rfl
@[simp] theorem State.reply_localTime (s : State) (r : Reply) : (s.reply r).localTime = s.localTime := rfl
@[simp] theorem State.reply_port (s : State) (r : Reply) : (s.reply r).port = s.port := rfl
@[simp] theorem State.reply_offsets (s : State) (r : Reply) : (s.reply r).offsets = s.offsets := rfl
@[simp] theorem State.reply_ring (s : State) (r : Reply) : (s.reply r).ring = s.ring := rfl
@[simp] theorem State.reply_detV (s : State) (r : Reply) : (s.reply r).detV = s.detV := rfl
@[simp] theorem State.reply_detH (s : State) (r : Reply) : (s.reply r).detH = s.detH := rfl
@[simp] theorem State.reply_onset (s : State) (r : Reply) : (s.reply r).onset = s.onset := rfl
@[simp] theorem State.reply_bank (s : State) (r : Reply) : (s.reply r).bank = s.bank := rfl
@[simp] theorem State.reply_assoc (s : State) (r : Reply) : (s.reply r).assoc = s.assoc := rfl
@[simp] theorem State.reply_outbox (s : State) (r : Reply) : (s.reply r).outbox = s.outbox := rfl
@[simp] theorem State.reply_routes (s : State) (r : Reply) : (s.reply r).routes = s.routes := rfl
@[simp] theorem State.reply_queues (s : State) (r : Reply) : (s.reply r).queues = s.queues := rfl
@[simp] theorem State.reply_snips (s : State) (r : Reply) : (s.reply r).snips = s.snips := rfl
@[simp] theorem State.reply_link (s : State) (r : Reply) : (s.reply r).link = { s.link with replies := s.link.replies ++ [r] } := rfl
@[simp] theorem State.reply_flushing (s : State) (r : Reply) : (s.reply r).flushing = s.flushing := rfl
@[simp] theorem State.reply_counters (s : State) (r : Reply) : (s.reply r).counters = s.counters := rfl

/-! A decode changes the link port alone. -/

@[simp] theorem State.popMessage_pending (s : State) : (s.popMessage).pending = s.pending := rfl
@[simp] theorem State.popMessage_resetLow (s : State) : (s.popMessage).resetLow = s.resetLow := rfl
@[simp] theorem State.popMessage_rate1 (s : State) : (s.popMessage).rate1 = s.rate1 := rfl
@[simp] theorem State.popMessage_rate0 (s : State) : (s.popMessage).rate0 = s.rate0 := rfl
@[simp] theorem State.popMessage_localTime (s : State) : (s.popMessage).localTime = s.localTime := rfl
@[simp] theorem State.popMessage_port (s : State) : (s.popMessage).port = s.port := rfl
@[simp] theorem State.popMessage_offsets (s : State) : (s.popMessage).offsets = s.offsets := rfl
@[simp] theorem State.popMessage_ring (s : State) : (s.popMessage).ring = s.ring := rfl
@[simp] theorem State.popMessage_detV (s : State) : (s.popMessage).detV = s.detV := rfl
@[simp] theorem State.popMessage_detH (s : State) : (s.popMessage).detH = s.detH := rfl
@[simp] theorem State.popMessage_onset (s : State) : (s.popMessage).onset = s.onset := rfl
@[simp] theorem State.popMessage_bank (s : State) : (s.popMessage).bank = s.bank := rfl
@[simp] theorem State.popMessage_assoc (s : State) : (s.popMessage).assoc = s.assoc := rfl
@[simp] theorem State.popMessage_outbox (s : State) : (s.popMessage).outbox = s.outbox := rfl
@[simp] theorem State.popMessage_routes (s : State) : (s.popMessage).routes = s.routes := rfl
@[simp] theorem State.popMessage_queues (s : State) : (s.popMessage).queues = s.queues := rfl
@[simp] theorem State.popMessage_snips (s : State) : (s.popMessage).snips = s.snips := rfl
@[simp] theorem State.popMessage_link (s : State) : (s.popMessage).link = ({ s.link with inbox := s.link.inbox.tail } : LinkPort).afterDecode := rfl
@[simp] theorem State.popMessage_flushing (s : State) : (s.popMessage).flushing = s.flushing := rfl
@[simp] theorem State.popMessage_counters (s : State) : (s.popMessage).counters = s.counters := rfl

/-! A message started changes the link port alone. -/

@[simp] theorem State.send_pending (s : State) (code : Byte) (body : List Byte) : (s.send code body).pending = s.pending := rfl
@[simp] theorem State.send_resetLow (s : State) (code : Byte) (body : List Byte) : (s.send code body).resetLow = s.resetLow := rfl
@[simp] theorem State.send_rate1 (s : State) (code : Byte) (body : List Byte) : (s.send code body).rate1 = s.rate1 := rfl
@[simp] theorem State.send_rate0 (s : State) (code : Byte) (body : List Byte) : (s.send code body).rate0 = s.rate0 := rfl
@[simp] theorem State.send_localTime (s : State) (code : Byte) (body : List Byte) : (s.send code body).localTime = s.localTime := rfl
@[simp] theorem State.send_port (s : State) (code : Byte) (body : List Byte) : (s.send code body).port = s.port := rfl
@[simp] theorem State.send_offsets (s : State) (code : Byte) (body : List Byte) : (s.send code body).offsets = s.offsets := rfl
@[simp] theorem State.send_ring (s : State) (code : Byte) (body : List Byte) : (s.send code body).ring = s.ring := rfl
@[simp] theorem State.send_detV (s : State) (code : Byte) (body : List Byte) : (s.send code body).detV = s.detV := rfl
@[simp] theorem State.send_detH (s : State) (code : Byte) (body : List Byte) : (s.send code body).detH = s.detH := rfl
@[simp] theorem State.send_onset (s : State) (code : Byte) (body : List Byte) : (s.send code body).onset = s.onset := rfl
@[simp] theorem State.send_bank (s : State) (code : Byte) (body : List Byte) : (s.send code body).bank = s.bank := rfl
@[simp] theorem State.send_assoc (s : State) (code : Byte) (body : List Byte) : (s.send code body).assoc = s.assoc := rfl
@[simp] theorem State.send_outbox (s : State) (code : Byte) (body : List Byte) : (s.send code body).outbox = s.outbox := rfl
@[simp] theorem State.send_routes (s : State) (code : Byte) (body : List Byte) : (s.send code body).routes = s.routes := rfl
@[simp] theorem State.send_queues (s : State) (code : Byte) (body : List Byte) : (s.send code body).queues = s.queues := rfl
@[simp] theorem State.send_snips (s : State) (code : Byte) (body : List Byte) : (s.send code body).snips = s.snips := rfl
@[simp] theorem State.send_link (s : State) (code : Byte) (body : List Byte) : (s.send code body).link = s.link.start code body := rfl
@[simp] theorem State.send_flushing (s : State) (code : Byte) (body : List Byte) : (s.send code body).flushing = s.flushing := rfl
@[simp] theorem State.send_counters (s : State) (code : Byte) (body : List Byte) : (s.send code body).counters = s.counters := rfl

/-! A signal raised changes the six feeds alone. -/

@[simp] theorem State.raiseSignal_pending (s : State) (c : Cause) : (s.raiseSignal c).pending = s.pending := rfl
@[simp] theorem State.raiseSignal_resetLow (s : State) (c : Cause) : (s.raiseSignal c).resetLow = s.resetLow := rfl
@[simp] theorem State.raiseSignal_rate1 (s : State) (c : Cause) : (s.raiseSignal c).rate1 = s.rate1 := rfl
@[simp] theorem State.raiseSignal_rate0 (s : State) (c : Cause) : (s.raiseSignal c).rate0 = s.rate0 := rfl
@[simp] theorem State.raiseSignal_localTime (s : State) (c : Cause) : (s.raiseSignal c).localTime = s.localTime := rfl
@[simp] theorem State.raiseSignal_port (s : State) (c : Cause) : (s.raiseSignal c).port = s.port := rfl
@[simp] theorem State.raiseSignal_offsets (s : State) (c : Cause) : (s.raiseSignal c).offsets = s.offsets := rfl
@[simp] theorem State.raiseSignal_ring (s : State) (c : Cause) : (s.raiseSignal c).ring = s.ring := rfl
@[simp] theorem State.raiseSignal_detV (s : State) (c : Cause) : (s.raiseSignal c).detV = { s.detV with feed := s.detV.feed.raise c s.ring.written } := rfl
@[simp] theorem State.raiseSignal_detH (s : State) (c : Cause) : (s.raiseSignal c).detH = { s.detH with feed := s.detH.feed.raise c s.ring.written } := rfl
@[simp] theorem State.raiseSignal_onset (s : State) (c : Cause) : (s.raiseSignal c).onset = { s.onset with feed := s.onset.feed.raise c s.ring.written } := rfl
@[simp] theorem State.raiseSignal_bank (s : State) (c : Cause) : (s.raiseSignal c).bank = { s.bank with feed := s.bank.feed.raise c s.ring.written } := rfl
@[simp] theorem State.raiseSignal_assoc (s : State) (c : Cause) : (s.raiseSignal c).assoc = { s.assoc with feed := s.assoc.feed.raise c s.ring.written } := rfl
@[simp] theorem State.raiseSignal_outbox (s : State) (c : Cause) : (s.raiseSignal c).outbox = s.outbox := rfl
@[simp] theorem State.raiseSignal_routes (s : State) (c : Cause) : (s.raiseSignal c).routes = s.routes := rfl
@[simp] theorem State.raiseSignal_queues (s : State) (c : Cause) : (s.raiseSignal c).queues = s.queues := rfl
@[simp] theorem State.raiseSignal_snips (s : State) (c : Cause) : (s.raiseSignal c).snips = { s.snips with feed := s.snips.feed.raise c s.ring.written } := rfl
@[simp] theorem State.raiseSignal_link (s : State) (c : Cause) : (s.raiseSignal c).link = s.link := rfl
@[simp] theorem State.raiseSignal_flushing (s : State) (c : Cause) : (s.raiseSignal c).flushing = s.flushing := rfl
@[simp] theorem State.raiseSignal_counters (s : State) (c : Cause) : (s.raiseSignal c).counters = s.counters := rfl

/-! A slot freed changes that slot alone. -/

@[simp] theorem State.freeSlot_pending (s : State) (n : Fin 8) : (s.freeSlot n).pending = s.pending := rfl
@[simp] theorem State.freeSlot_resetLow (s : State) (n : Fin 8) : (s.freeSlot n).resetLow = s.resetLow := rfl
@[simp] theorem State.freeSlot_rate1 (s : State) (n : Fin 8) : (s.freeSlot n).rate1 = s.rate1 := rfl
@[simp] theorem State.freeSlot_rate0 (s : State) (n : Fin 8) : (s.freeSlot n).rate0 = s.rate0 := rfl
@[simp] theorem State.freeSlot_localTime (s : State) (n : Fin 8) : (s.freeSlot n).localTime = s.localTime := rfl
@[simp] theorem State.freeSlot_port (s : State) (n : Fin 8) : (s.freeSlot n).port = s.port := rfl
@[simp] theorem State.freeSlot_offsets (s : State) (n : Fin 8) : (s.freeSlot n).offsets = s.offsets := rfl
@[simp] theorem State.freeSlot_ring (s : State) (n : Fin 8) : (s.freeSlot n).ring = s.ring := rfl
@[simp] theorem State.freeSlot_detV (s : State) (n : Fin 8) : (s.freeSlot n).detV = s.detV := rfl
@[simp] theorem State.freeSlot_detH (s : State) (n : Fin 8) : (s.freeSlot n).detH = s.detH := rfl
@[simp] theorem State.freeSlot_onset (s : State) (n : Fin 8) : (s.freeSlot n).onset = s.onset := rfl
@[simp] theorem State.freeSlot_bank (s : State) (n : Fin 8) : (s.freeSlot n).bank = s.bank := rfl
@[simp] theorem State.freeSlot_assoc (s : State) (n : Fin 8) : (s.freeSlot n).assoc = s.assoc := rfl
@[simp] theorem State.freeSlot_outbox (s : State) (n : Fin 8) : (s.freeSlot n).outbox = s.outbox := rfl
@[simp] theorem State.freeSlot_routes (s : State) (n : Fin 8) : (s.freeSlot n).routes = s.routes := rfl
@[simp] theorem State.freeSlot_queues (s : State) (n : Fin 8) : (s.freeSlot n).queues = s.queues := rfl
@[simp] theorem State.freeSlot_snips (s : State) (n : Fin 8) : (s.freeSlot n).snips = { s.snips with slots := s.snips.slots.set n .reset } := rfl
@[simp] theorem State.freeSlot_link (s : State) (n : Fin 8) : (s.freeSlot n).link = s.link := rfl
@[simp] theorem State.freeSlot_flushing (s : State) (n : Fin 8) : (s.freeSlot n).flushing = s.flushing := rfl
@[simp] theorem State.freeSlot_counters (s : State) (n : Fin 8) : (s.freeSlot n).counters = s.counters := rfl

/-! A completion changes the next pick number and the channel of picks alone. -/

@[simp] theorem State.completeOne_pending (s : State) (gap : Option Cause) (e : Entry) : (s.completeOne gap e).pending = s.pending := rfl
@[simp] theorem State.completeOne_resetLow (s : State) (gap : Option Cause) (e : Entry) : (s.completeOne gap e).resetLow = s.resetLow := rfl
@[simp] theorem State.completeOne_rate1 (s : State) (gap : Option Cause) (e : Entry) : (s.completeOne gap e).rate1 = s.rate1 := rfl
@[simp] theorem State.completeOne_rate0 (s : State) (gap : Option Cause) (e : Entry) : (s.completeOne gap e).rate0 = s.rate0 := rfl
@[simp] theorem State.completeOne_localTime (s : State) (gap : Option Cause) (e : Entry) : (s.completeOne gap e).localTime = s.localTime := rfl
@[simp] theorem State.completeOne_port (s : State) (gap : Option Cause) (e : Entry) : (s.completeOne gap e).port = s.port := rfl
@[simp] theorem State.completeOne_offsets (s : State) (gap : Option Cause) (e : Entry) : (s.completeOne gap e).offsets = s.offsets := rfl
@[simp] theorem State.completeOne_ring (s : State) (gap : Option Cause) (e : Entry) : (s.completeOne gap e).ring = s.ring := rfl
@[simp] theorem State.completeOne_detV (s : State) (gap : Option Cause) (e : Entry) : (s.completeOne gap e).detV = s.detV := rfl
@[simp] theorem State.completeOne_detH (s : State) (gap : Option Cause) (e : Entry) : (s.completeOne gap e).detH = s.detH := rfl
@[simp] theorem State.completeOne_onset (s : State) (gap : Option Cause) (e : Entry) : (s.completeOne gap e).onset = { s.onset with nextPick := nextNumber s.onset.nextPick } := rfl
@[simp] theorem State.completeOne_bank (s : State) (gap : Option Cause) (e : Entry) : (s.completeOne gap e).bank = s.bank := rfl
@[simp] theorem State.completeOne_assoc (s : State) (gap : Option Cause) (e : Entry) : (s.completeOne gap e).assoc = { s.assoc with picks := s.assoc.picks ++ [e.complete s.onset.phas (s.lminOf e) s.onset.nextPick gap] } := rfl
@[simp] theorem State.completeOne_outbox (s : State) (gap : Option Cause) (e : Entry) : (s.completeOne gap e).outbox = s.outbox := rfl
@[simp] theorem State.completeOne_routes (s : State) (gap : Option Cause) (e : Entry) : (s.completeOne gap e).routes = s.routes := rfl
@[simp] theorem State.completeOne_queues (s : State) (gap : Option Cause) (e : Entry) : (s.completeOne gap e).queues = s.queues := rfl
@[simp] theorem State.completeOne_snips (s : State) (gap : Option Cause) (e : Entry) : (s.completeOne gap e).snips = s.snips := rfl
@[simp] theorem State.completeOne_link (s : State) (gap : Option Cause) (e : Entry) : (s.completeOne gap e).link = s.link := rfl
@[simp] theorem State.completeOne_flushing (s : State) (gap : Option Cause) (e : Entry) : (s.completeOne gap e).flushing = s.flushing := rfl
@[simp] theorem State.completeOne_counters (s : State) (gap : Option Cause) (e : Entry) : (s.completeOne gap e).counters = s.counters := rfl

/-! The boundary set changes the Onset Unit alone. -/

@[simp] theorem State.setBoundary_pending (s : State) (c : Cause) : (s.setBoundary c).pending = s.pending := rfl
@[simp] theorem State.setBoundary_resetLow (s : State) (c : Cause) : (s.setBoundary c).resetLow = s.resetLow := rfl
@[simp] theorem State.setBoundary_rate1 (s : State) (c : Cause) : (s.setBoundary c).rate1 = s.rate1 := rfl
@[simp] theorem State.setBoundary_rate0 (s : State) (c : Cause) : (s.setBoundary c).rate0 = s.rate0 := rfl
@[simp] theorem State.setBoundary_localTime (s : State) (c : Cause) : (s.setBoundary c).localTime = s.localTime := rfl
@[simp] theorem State.setBoundary_port (s : State) (c : Cause) : (s.setBoundary c).port = s.port := rfl
@[simp] theorem State.setBoundary_offsets (s : State) (c : Cause) : (s.setBoundary c).offsets = s.offsets := rfl
@[simp] theorem State.setBoundary_ring (s : State) (c : Cause) : (s.setBoundary c).ring = s.ring := rfl
@[simp] theorem State.setBoundary_detV (s : State) (c : Cause) : (s.setBoundary c).detV = s.detV := rfl
@[simp] theorem State.setBoundary_detH (s : State) (c : Cause) : (s.setBoundary c).detH = s.detH := rfl
@[simp] theorem State.setBoundary_onset (s : State) (c : Cause) : (s.setBoundary c).onset = { s.onset with boundary := some ⟨s.ring.written, c⟩ } := rfl
@[simp] theorem State.setBoundary_bank (s : State) (c : Cause) : (s.setBoundary c).bank = s.bank := rfl
@[simp] theorem State.setBoundary_assoc (s : State) (c : Cause) : (s.setBoundary c).assoc = s.assoc := rfl
@[simp] theorem State.setBoundary_outbox (s : State) (c : Cause) : (s.setBoundary c).outbox = s.outbox := rfl
@[simp] theorem State.setBoundary_routes (s : State) (c : Cause) : (s.setBoundary c).routes = s.routes := rfl
@[simp] theorem State.setBoundary_queues (s : State) (c : Cause) : (s.setBoundary c).queues = s.queues := rfl
@[simp] theorem State.setBoundary_snips (s : State) (c : Cause) : (s.setBoundary c).snips = s.snips := rfl
@[simp] theorem State.setBoundary_link (s : State) (c : Cause) : (s.setBoundary c).link = s.link := rfl
@[simp] theorem State.setBoundary_flushing (s : State) (c : Cause) : (s.setBoundary c).flushing = s.flushing := rfl
@[simp] theorem State.setBoundary_counters (s : State) (c : Cause) : (s.setBoundary c).counters = s.counters := rfl

/-! Discards counted change one counter. -/

@[simp] theorem State.countFlushed_pending (s : State) (n : Nat) : (s.countFlushed n).pending = s.pending := rfl
@[simp] theorem State.countFlushed_resetLow (s : State) (n : Nat) : (s.countFlushed n).resetLow = s.resetLow := rfl
@[simp] theorem State.countFlushed_rate1 (s : State) (n : Nat) : (s.countFlushed n).rate1 = s.rate1 := rfl
@[simp] theorem State.countFlushed_rate0 (s : State) (n : Nat) : (s.countFlushed n).rate0 = s.rate0 := rfl
@[simp] theorem State.countFlushed_localTime (s : State) (n : Nat) : (s.countFlushed n).localTime = s.localTime := rfl
@[simp] theorem State.countFlushed_port (s : State) (n : Nat) : (s.countFlushed n).port = s.port := rfl
@[simp] theorem State.countFlushed_offsets (s : State) (n : Nat) : (s.countFlushed n).offsets = s.offsets := rfl
@[simp] theorem State.countFlushed_ring (s : State) (n : Nat) : (s.countFlushed n).ring = s.ring := rfl
@[simp] theorem State.countFlushed_detV (s : State) (n : Nat) : (s.countFlushed n).detV = s.detV := rfl
@[simp] theorem State.countFlushed_detH (s : State) (n : Nat) : (s.countFlushed n).detH = s.detH := rfl
@[simp] theorem State.countFlushed_onset (s : State) (n : Nat) : (s.countFlushed n).onset = s.onset := rfl
@[simp] theorem State.countFlushed_bank (s : State) (n : Nat) : (s.countFlushed n).bank = s.bank := rfl
@[simp] theorem State.countFlushed_assoc (s : State) (n : Nat) : (s.countFlushed n).assoc = s.assoc := rfl
@[simp] theorem State.countFlushed_outbox (s : State) (n : Nat) : (s.countFlushed n).outbox = s.outbox := rfl
@[simp] theorem State.countFlushed_routes (s : State) (n : Nat) : (s.countFlushed n).routes = s.routes := rfl
@[simp] theorem State.countFlushed_queues (s : State) (n : Nat) : (s.countFlushed n).queues = s.queues := rfl
@[simp] theorem State.countFlushed_snips (s : State) (n : Nat) : (s.countFlushed n).snips = s.snips := rfl
@[simp] theorem State.countFlushed_link (s : State) (n : Nat) : (s.countFlushed n).link = s.link := rfl
@[simp] theorem State.countFlushed_flushing (s : State) (n : Nat) : (s.countFlushed n).flushing = s.flushing := rfl
@[simp] theorem State.countFlushed_counters (s : State) (n : Nat) : (s.countFlushed n).counters = { s.counters with pendingFlushed := ctr s.counters.pendingFlushed n } := rfl

/-! A pick passed on changes the outbox alone. -/

@[simp] theorem State.passOn_pending (s : State) (p : Pick) (event : Nat) (role : Role) : (s.passOn p event role).pending = s.pending := rfl
@[simp] theorem State.passOn_resetLow (s : State) (p : Pick) (event : Nat) (role : Role) : (s.passOn p event role).resetLow = s.resetLow := rfl
@[simp] theorem State.passOn_rate1 (s : State) (p : Pick) (event : Nat) (role : Role) : (s.passOn p event role).rate1 = s.rate1 := rfl
@[simp] theorem State.passOn_rate0 (s : State) (p : Pick) (event : Nat) (role : Role) : (s.passOn p event role).rate0 = s.rate0 := rfl
@[simp] theorem State.passOn_localTime (s : State) (p : Pick) (event : Nat) (role : Role) : (s.passOn p event role).localTime = s.localTime := rfl
@[simp] theorem State.passOn_port (s : State) (p : Pick) (event : Nat) (role : Role) : (s.passOn p event role).port = s.port := rfl
@[simp] theorem State.passOn_offsets (s : State) (p : Pick) (event : Nat) (role : Role) : (s.passOn p event role).offsets = s.offsets := rfl
@[simp] theorem State.passOn_ring (s : State) (p : Pick) (event : Nat) (role : Role) : (s.passOn p event role).ring = s.ring := rfl
@[simp] theorem State.passOn_detV (s : State) (p : Pick) (event : Nat) (role : Role) : (s.passOn p event role).detV = s.detV := rfl
@[simp] theorem State.passOn_detH (s : State) (p : Pick) (event : Nat) (role : Role) : (s.passOn p event role).detH = s.detH := rfl
@[simp] theorem State.passOn_onset (s : State) (p : Pick) (event : Nat) (role : Role) : (s.passOn p event role).onset = s.onset := rfl
@[simp] theorem State.passOn_bank (s : State) (p : Pick) (event : Nat) (role : Role) : (s.passOn p event role).bank = s.bank := rfl
@[simp] theorem State.passOn_assoc (s : State) (p : Pick) (event : Nat) (role : Role) : (s.passOn p event role).assoc = s.assoc := rfl
@[simp] theorem State.passOn_outbox (s : State) (p : Pick) (event : Nat) (role : Role) : (s.passOn p event role).outbox = s.outbox ++ [.toRoute p event role] := rfl
@[simp] theorem State.passOn_routes (s : State) (p : Pick) (event : Nat) (role : Role) : (s.passOn p event role).routes = s.routes := rfl
@[simp] theorem State.passOn_queues (s : State) (p : Pick) (event : Nat) (role : Role) : (s.passOn p event role).queues = s.queues := rfl
@[simp] theorem State.passOn_snips (s : State) (p : Pick) (event : Nat) (role : Role) : (s.passOn p event role).snips = s.snips := rfl
@[simp] theorem State.passOn_link (s : State) (p : Pick) (event : Nat) (role : Role) : (s.passOn p event role).link = s.link := rfl
@[simp] theorem State.passOn_flushing (s : State) (p : Pick) (event : Nat) (role : Role) : (s.passOn p event role).flushing = s.flushing := rfl
@[simp] theorem State.passOn_counters (s : State) (p : Pick) (event : Nat) (role : Role) : (s.passOn p event role).counters = s.counters := rfl

/-! A cut counted changes one counter. -/

@[simp] theorem State.countCut_pending (s : State) : (s.countCut).pending = s.pending := rfl
@[simp] theorem State.countCut_resetLow (s : State) : (s.countCut).resetLow = s.resetLow := rfl
@[simp] theorem State.countCut_rate1 (s : State) : (s.countCut).rate1 = s.rate1 := rfl
@[simp] theorem State.countCut_rate0 (s : State) : (s.countCut).rate0 = s.rate0 := rfl
@[simp] theorem State.countCut_localTime (s : State) : (s.countCut).localTime = s.localTime := rfl
@[simp] theorem State.countCut_port (s : State) : (s.countCut).port = s.port := rfl
@[simp] theorem State.countCut_offsets (s : State) : (s.countCut).offsets = s.offsets := rfl
@[simp] theorem State.countCut_ring (s : State) : (s.countCut).ring = s.ring := rfl
@[simp] theorem State.countCut_detV (s : State) : (s.countCut).detV = s.detV := rfl
@[simp] theorem State.countCut_detH (s : State) : (s.countCut).detH = s.detH := rfl
@[simp] theorem State.countCut_onset (s : State) : (s.countCut).onset = s.onset := rfl
@[simp] theorem State.countCut_bank (s : State) : (s.countCut).bank = s.bank := rfl
@[simp] theorem State.countCut_assoc (s : State) : (s.countCut).assoc = s.assoc := rfl
@[simp] theorem State.countCut_outbox (s : State) : (s.countCut).outbox = s.outbox := rfl
@[simp] theorem State.countCut_routes (s : State) : (s.countCut).routes = s.routes := rfl
@[simp] theorem State.countCut_queues (s : State) : (s.countCut).queues = s.queues := rfl
@[simp] theorem State.countCut_snips (s : State) : (s.countCut).snips = s.snips := rfl
@[simp] theorem State.countCut_link (s : State) : (s.countCut).link = s.link := rfl
@[simp] theorem State.countCut_flushing (s : State) : (s.countCut).flushing = s.flushing := rfl
@[simp] theorem State.countCut_counters (s : State) : (s.countCut).counters = { s.counters with snippetCut := ctr s.counters.snippetCut 1 } := rfl

/-! A lost character counted changes one counter. -/

@[simp] theorem State.linkOverrun_pending (s : State) : (s.linkOverrun).pending = s.pending := rfl
@[simp] theorem State.linkOverrun_resetLow (s : State) : (s.linkOverrun).resetLow = s.resetLow := rfl
@[simp] theorem State.linkOverrun_rate1 (s : State) : (s.linkOverrun).rate1 = s.rate1 := rfl
@[simp] theorem State.linkOverrun_rate0 (s : State) : (s.linkOverrun).rate0 = s.rate0 := rfl
@[simp] theorem State.linkOverrun_localTime (s : State) : (s.linkOverrun).localTime = s.localTime := rfl
@[simp] theorem State.linkOverrun_port (s : State) : (s.linkOverrun).port = s.port := rfl
@[simp] theorem State.linkOverrun_offsets (s : State) : (s.linkOverrun).offsets = s.offsets := rfl
@[simp] theorem State.linkOverrun_ring (s : State) : (s.linkOverrun).ring = s.ring := rfl
@[simp] theorem State.linkOverrun_detV (s : State) : (s.linkOverrun).detV = s.detV := rfl
@[simp] theorem State.linkOverrun_detH (s : State) : (s.linkOverrun).detH = s.detH := rfl
@[simp] theorem State.linkOverrun_onset (s : State) : (s.linkOverrun).onset = s.onset := rfl
@[simp] theorem State.linkOverrun_bank (s : State) : (s.linkOverrun).bank = s.bank := rfl
@[simp] theorem State.linkOverrun_assoc (s : State) : (s.linkOverrun).assoc = s.assoc := rfl
@[simp] theorem State.linkOverrun_outbox (s : State) : (s.linkOverrun).outbox = s.outbox := rfl
@[simp] theorem State.linkOverrun_routes (s : State) : (s.linkOverrun).routes = s.routes := rfl
@[simp] theorem State.linkOverrun_queues (s : State) : (s.linkOverrun).queues = s.queues := rfl
@[simp] theorem State.linkOverrun_snips (s : State) : (s.linkOverrun).snips = s.snips := rfl
@[simp] theorem State.linkOverrun_link (s : State) : (s.linkOverrun).link = s.link := rfl
@[simp] theorem State.linkOverrun_flushing (s : State) : (s.linkOverrun).flushing = s.flushing := rfl
@[simp] theorem State.linkOverrun_counters (s : State) : (s.linkOverrun).counters = { s.counters with linkOverrun := ctr s.counters.linkOverrun 1 } := rfl

/-! A good block counted changes one counter. -/

@[simp] theorem State.countGood_pending (s : State) : (s.countGood).pending = s.pending := rfl
@[simp] theorem State.countGood_resetLow (s : State) : (s.countGood).resetLow = s.resetLow := rfl
@[simp] theorem State.countGood_rate1 (s : State) : (s.countGood).rate1 = s.rate1 := rfl
@[simp] theorem State.countGood_rate0 (s : State) : (s.countGood).rate0 = s.rate0 := rfl
@[simp] theorem State.countGood_localTime (s : State) : (s.countGood).localTime = s.localTime := rfl
@[simp] theorem State.countGood_port (s : State) : (s.countGood).port = s.port := rfl
@[simp] theorem State.countGood_offsets (s : State) : (s.countGood).offsets = s.offsets := rfl
@[simp] theorem State.countGood_ring (s : State) : (s.countGood).ring = s.ring := rfl
@[simp] theorem State.countGood_detV (s : State) : (s.countGood).detV = s.detV := rfl
@[simp] theorem State.countGood_detH (s : State) : (s.countGood).detH = s.detH := rfl
@[simp] theorem State.countGood_onset (s : State) : (s.countGood).onset = s.onset := rfl
@[simp] theorem State.countGood_bank (s : State) : (s.countGood).bank = s.bank := rfl
@[simp] theorem State.countGood_assoc (s : State) : (s.countGood).assoc = s.assoc := rfl
@[simp] theorem State.countGood_outbox (s : State) : (s.countGood).outbox = s.outbox := rfl
@[simp] theorem State.countGood_routes (s : State) : (s.countGood).routes = s.routes := rfl
@[simp] theorem State.countGood_queues (s : State) : (s.countGood).queues = s.queues := rfl
@[simp] theorem State.countGood_snips (s : State) : (s.countGood).snips = s.snips := rfl
@[simp] theorem State.countGood_link (s : State) : (s.countGood).link = s.link := rfl
@[simp] theorem State.countGood_flushing (s : State) : (s.countGood).flushing = s.flushing := rfl
@[simp] theorem State.countGood_counters (s : State) : (s.countGood).counters = { s.counters with blocksGood := ctr s.counters.blocksGood 1 } := rfl

/-! A detector replaced changes that detector alone. -/

@[simp] theorem State.setDet_pending (s : State) (d : Det) (x : Detector) : (s.setDet d x).pending = s.pending := by cases d <;> rfl
@[simp] theorem State.setDet_resetLow (s : State) (d : Det) (x : Detector) : (s.setDet d x).resetLow = s.resetLow := by cases d <;> rfl
@[simp] theorem State.setDet_rate1 (s : State) (d : Det) (x : Detector) : (s.setDet d x).rate1 = s.rate1 := by cases d <;> rfl
@[simp] theorem State.setDet_rate0 (s : State) (d : Det) (x : Detector) : (s.setDet d x).rate0 = s.rate0 := by cases d <;> rfl
@[simp] theorem State.setDet_localTime (s : State) (d : Det) (x : Detector) : (s.setDet d x).localTime = s.localTime := by cases d <;> rfl
@[simp] theorem State.setDet_port (s : State) (d : Det) (x : Detector) : (s.setDet d x).port = s.port := by cases d <;> rfl
@[simp] theorem State.setDet_offsets (s : State) (d : Det) (x : Detector) : (s.setDet d x).offsets = s.offsets := by cases d <;> rfl
@[simp] theorem State.setDet_ring (s : State) (d : Det) (x : Detector) : (s.setDet d x).ring = s.ring := by cases d <;> rfl
@[simp] theorem State.setDet_onset (s : State) (d : Det) (x : Detector) : (s.setDet d x).onset = s.onset := by cases d <;> rfl
@[simp] theorem State.setDet_bank (s : State) (d : Det) (x : Detector) : (s.setDet d x).bank = s.bank := by cases d <;> rfl
@[simp] theorem State.setDet_assoc (s : State) (d : Det) (x : Detector) : (s.setDet d x).assoc = s.assoc := by cases d <;> rfl
@[simp] theorem State.setDet_outbox (s : State) (d : Det) (x : Detector) : (s.setDet d x).outbox = s.outbox := by cases d <;> rfl
@[simp] theorem State.setDet_routes (s : State) (d : Det) (x : Detector) : (s.setDet d x).routes = s.routes := by cases d <;> rfl
@[simp] theorem State.setDet_queues (s : State) (d : Det) (x : Detector) : (s.setDet d x).queues = s.queues := by cases d <;> rfl
@[simp] theorem State.setDet_snips (s : State) (d : Det) (x : Detector) : (s.setDet d x).snips = s.snips := by cases d <;> rfl
@[simp] theorem State.setDet_link (s : State) (d : Det) (x : Detector) : (s.setDet d x).link = s.link := by cases d <;> rfl
@[simp] theorem State.setDet_flushing (s : State) (d : Det) (x : Detector) : (s.setDet d x).flushing = s.flushing := by cases d <;> rfl
@[simp] theorem State.setDet_counters (s : State) (d : Det) (x : Detector) : (s.setDet d x).counters = s.counters := by cases d <;> rfl
@[simp] theorem State.setDet_det_self (s : State) (d : Det) (x : Detector) : (s.setDet d x).det d = x := by cases d <;> rfl

theorem State.setDet_det_ne (s : State) {d d' : Det} (x : Detector) (h : d' ≠ d) : (s.setDet d x).det d' = s.det d' := by
  cases d <;> cases d' <;> first | rfl | exact absurd rfl h

@[simp] theorem State.setDet_det (s : State) (d : Det) : s.setDet d (s.det d) = s := by cases d <;> rfl

@[simp] theorem State.setDet_setDet (s : State) (d : Det) (x y : Detector) : (s.setDet d x).setDet d y = s.setDet d y := by
  cases d <;> rfl

@[simp] theorem OnsetUnit.setLast_table (o : OnsetUnit) (d : Det) (l : LastOnset) : (o.setLast d l).table = o.table := by
  cases d <;> rfl

@[simp] theorem OnsetUnit.setLast_last_self (o : OnsetUnit) (d : Det) (l : LastOnset) : (o.setLast d l).last d = some l := by
  cases d <;> rfl

@[simp] theorem OnsetUnit.setLast_feed (o : OnsetUnit) (d : Det) (l : LastOnset) : (o.setLast d l).feed = o.feed := by
  cases d <;> rfl

@[simp] theorem OnsetUnit.setLast_nextPick (o : OnsetUnit) (d : Det) (l : LastOnset) : (o.setLast d l).nextPick = o.nextPick := by
  cases d <;> rfl

@[simp] theorem OnsetUnit.setLast_boundary (o : OnsetUnit) (d : Det) (l : LastOnset) : (o.setLast d l).boundary = o.boundary := by
  cases d <;> rfl

@[simp] theorem OnsetUnit.setLast_onst (o : OnsetUnit) (d : Det) (l : LastOnset) : (o.setLast d l).onst = o.onst := by
  cases d <;> rfl

@[simp] theorem OnsetUnit.setLast_phas (o : OnsetUnit) (d : Det) (l : LastOnset) : (o.setLast d l).phas = o.phas := by
  cases d <;> rfl

end Machine

end Sys2Proof
end

