-- ==== Sys2Proof/Laws/Ops.lean ====
section
/-! SUPPORT. What each shared operation can do, said once: reset low, the decoder, feeds, numbers and bytes, the choice of a
candidate, the line, the triples of a delivery. -/

namespace Sys2Proof.Machine

/-! ## Reset low and the decoder -/

/-- While RESETN is high a command's step is made. -/
theorem State.live_high {s : State} (h : s.resetLow = false) (f : State → State) : s.live f = f s := by simp [State.live, h]

/-- While RESETN is low no step is made. -/
theorem State.live_low {s : State} (h : s.resetLow = true) (f : State → State) : s.live f = s := by simp [State.live, h]

/-- Whatever a command does, it is nothing or its step. -/
theorem State.live_cases (s : State) (f : State → State) : s.live f = s ∨ s.live f = f s := by
  unfold State.live; split
  · exact .inl rfl
  · exact .inr rfl

/-- A message that may be decoded is the oldest message. -/
theorem State.decodes_oldest {s : State} {m : InMsg} (h : s.decodes m) : s.oldestMessage = some m := by
  obtain ⟨-, hf, hh, hs, -⟩ := h
  unfold State.oldestMessage
  cases hi : s.link.inbox with
  | nil => rw [hi] at hh; cases hh
  | cons a as =>
    rw [hi] at hh
    cases hh
    simp [hf, hs]

/-- A message that may be decoded finds a reply place. -/
theorem State.decodes_room {s : State} {m : InMsg} (h : s.decodes m) : s.replyRoom = true := by
  simpa [State.replyRoom] using h.2.2.2.2

/-- The decode of a message that may be decoded, has the code asked for, and whose owners stand ready. -/
theorem State.decode_taken {s : State} {m : InMsg} (h : s.decodes m) {wanted : InMsg → Bool} {owners : InMsg → State → Bool}
    {take : InMsg → State → State} (hw : wanted m = true) (ho : owners m s = true) :
    s.decode wanted owners take = take m s.popMessage := by
  simp [State.decode, State.decodes_oldest h, State.decodes_room h, hw, ho]

/-- The same with RESETN high, as the commands use it. -/
theorem State.live_decode_taken {s : State} {m : InMsg} (h : s.decodes m) {wanted : InMsg → Bool}
    {owners : InMsg → State → Bool} {take : InMsg → State → State} (hw : wanted m = true) (ho : owners m s = true) :
    s.live (fun s => s.decode wanted owners take) = take m s.popMessage := by
  rw [State.live_high h.1, State.decode_taken h hw ho]

/-- A decode changes nothing, or takes the oldest message, which has the code asked for, with a reply place free, no FLSH still
being decoded, and its owners ready. -/
theorem State.decode_cases (s : State) (wanted : InMsg → Bool) (owners : InMsg → State → Bool) (take : InMsg → State → State) :
    s.decode wanted owners take = s ∨
      ∃ m, s.link.inbox.head? = some m ∧ m.status ≠ .inProgress ∧ s.flushing = false ∧ wanted m = true ∧ owners m s = true ∧
        s.link.replies.length < 8 ∧ s.decode wanted owners take = take m s.popMessage := by
  unfold State.decode State.oldestMessage
  cases hi : s.link.inbox with
  | nil => exact .inl rfl
  | cons a as =>
    simp only
    by_cases hb : a.status == .inProgress || s.flushing
    · rw [if_pos hb]; exact .inl rfl
    · rw [if_neg hb]
      simp only
      by_cases hc : wanted a && s.replyRoom && owners a s
      · rw [if_pos hc]
        simp only [Bool.and_eq_true, State.replyRoom, decide_eq_true_eq] at hc
        simp only [Bool.or_eq_true, beq_iff_eq, not_or, Bool.not_eq_true] at hb
        exact .inr ⟨a, rfl, hb.1, hb.2, hc.1.1, hc.2, hc.1.2, rfl⟩
      · rw [if_neg hc]; exact .inl rfl

/-- An action with its whole body acts. -/
theorem action_acts {need : Nat} {act : InMsg → State → State} {m : InMsg} {s : State} (hs : m.status ≠ .broken)
    (hl : need ≤ m.body.length) : action need act m s = act m s := by
  unfold action InMsg.isBroken
  rw [if_neg]
  simp [hs, hl]

/-- An action that is broken or too short is refused SHORT. -/
theorem action_short {need : Nat} {act : InMsg → State → State} {m : InMsg} {s : State}
    (h : m.status = .broken ∨ m.body.length < need) : action need act m s = s.reply (.rfsd m.code .short) := by
  unfold action InMsg.isBroken
  rw [if_pos]
  simpa using h

/-- A decode leaves every field but the link port. -/
theorem State.popMessage_eq (s : State) :
    s.popMessage = { s with link := ({ s.link with inbox := s.link.inbox.tail } : LinkPort).afterDecode } := rfl

/-! ## The line -/

/-- Resuming the line changes what is being sent alone. -/
theorem LinkPort.resume_eq (l : LinkPort) : ∃ c r, l.resume = { l with current := c, rest := r } := by
  unfold LinkPort.resume
  split
  · cases h : l.rest with
    | nil => exact ⟨l.current, l.rest, rfl⟩
    | cons c cs => exact ⟨some c, cs, rfl⟩
  · exact ⟨_, _, rfl⟩

@[simp] theorem LinkPort.resume_inbox (l : LinkPort) : l.resume.inbox = l.inbox := by
  obtain ⟨c, r, h⟩ := l.resume_eq; rw [h]

@[simp] theorem LinkPort.resume_replies (l : LinkPort) : l.resume.replies = l.replies := by
  obtain ⟨c, r, h⟩ := l.resume_eq; rw [h]

@[simp] theorem LinkPort.resume_notices (l : LinkPort) : l.resume.notices = l.notices := by
  obtain ⟨c, r, h⟩ := l.resume_eq; rw [h]

/-- After a stored character the own HOLD state, the flow character and the line may change. -/
theorem LinkPort.afterStore_eq (l : LinkPort) :
    ∃ o f c r, l.afterStore = { l with ownHold := o, flow := f, current := c, rest := r } := by
  unfold LinkPort.afterStore
  split
  · split
    · obtain ⟨c, r, h⟩ := ({ l with ownHold := true, flow := none } : LinkPort).resume_eq
      exact ⟨_, _, c, r, h⟩
    · exact ⟨_, _, _, _, rfl⟩
  · exact ⟨_, _, _, _, rfl⟩

@[simp] theorem LinkPort.afterStore_inbox (l : LinkPort) : l.afterStore.inbox = l.inbox := by
  obtain ⟨o, f, c, r, h⟩ := l.afterStore_eq; rw [h]

@[simp] theorem LinkPort.afterStore_replies (l : LinkPort) : l.afterStore.replies = l.replies := by
  obtain ⟨o, f, c, r, h⟩ := l.afterStore_eq; rw [h]

/-- After a decode the own HOLD state, the flow character and the line may change. -/
theorem LinkPort.afterDecode_eq (l : LinkPort) :
    ∃ o f c r, l.afterDecode = { l with ownHold := o, flow := f, current := c, rest := r } := by
  unfold LinkPort.afterDecode
  split
  · split
    · obtain ⟨c, r, h⟩ := ({ l with ownHold := false, flow := none } : LinkPort).resume_eq
      exact ⟨_, _, c, r, h⟩
    · exact ⟨_, _, _, _, rfl⟩
  · exact ⟨_, _, _, _, rfl⟩

@[simp] theorem LinkPort.afterDecode_inbox (l : LinkPort) : l.afterDecode.inbox = l.inbox := by
  obtain ⟨o, f, c, r, h⟩ := l.afterDecode_eq; rw [h]

@[simp] theorem LinkPort.afterDecode_replies (l : LinkPort) : l.afterDecode.replies = l.replies := by
  obtain ⟨o, f, c, r, h⟩ := l.afterDecode_eq; rw [h]

@[simp] theorem LinkPort.afterDecode_notices (l : LinkPort) : l.afterDecode.notices = l.notices := by
  obtain ⟨o, f, c, r, h⟩ := l.afterDecode_eq; rw [h]

@[simp] theorem LinkPort.afterDecode_redy (l : LinkPort) : l.afterDecode.redy = l.redy := by
  obtain ⟨o, f, c, r, h⟩ := l.afterDecode_eq; rw [h]

@[simp] theorem LinkPort.afterDecode_watch (l : LinkPort) : l.afterDecode.watch = l.watch := by
  obtain ⟨o, f, c, r, h⟩ := l.afterDecode_eq; rw [h]

/-- Breaking the message in progress changes the link port and a counter alone. -/
theorem State.breakMessage_eq (s : State) : ∃ inbox k,
    s.breakMessage = { s with
      link := { s.link with inbox := inbox }, counters := { s.counters with linkBrokenMessages := k } } := by
  unfold State.breakMessage
  split
  · exact ⟨_, _, rfl⟩
  · exact ⟨_, _, rfl⟩

/-! ## Feeds -/

/-- When a reader may not treat a triple yet: it was written after the oldest signal still to be taken. -/
theorem Feed.holdsBack_iff (f : Feed) (idx : Nat) :
    f.holdsBack idx = true ↔ ∃ g, f.signals.head? = some g ∧ g.after ≤ idx := by
  unfold Feed.holdsBack
  cases f.signals with
  | nil => simp
  | cons g gs => simp

/-- When a reader's next triple is ready: it is written, and no signal stands before it. -/
theorem Feed.tripleReady_iff (f : Feed) (r : Ring) :
    f.tripleReady r = true ↔ f.taken < r.written ∧ ∀ g, f.signals.head? = some g → f.taken < g.after := by
  unfold Feed.tripleReady Feed.holdsBack
  cases f.signals with
  | nil => simp
  | cons g gs => simp

/-- When a reader's oldest signal may be taken: FLUSH at any time, another once the triples before it are taken. -/
theorem Feed.signalReady_iff (f : Feed) (c : Cause) :
    f.signalReady = some c ↔ ∃ g, f.signals.head? = some g ∧ g.cause = c ∧ (c = .flush ∨ g.after ≤ f.taken) := by
  unfold Feed.signalReady
  cases f.signals with
  | nil => simp
  | cons g gs =>
    simp only [List.head?_cons, Option.some.injEq, exists_eq_left', Bool.or_eq_true, beq_iff_eq, decide_eq_true_eq]
    constructor
    · intro h
      split at h
      · rename_i hc
        cases h
        exact ⟨rfl, hc⟩
      · cases h
    · rintro ⟨rfl, h⟩
      rw [if_pos h]

/-! ## Numbers and bytes -/

/-- A clamped value lies in its range. -/
theorem clamp_mem {lo hi : Nat} (h : lo ≤ hi) (v : Nat) : lo ≤ clamp lo hi v ∧ clamp lo hi v ≤ hi := by
  unfold clamp; omega

/-- A setting stays in its range. -/
theorem setting_mem {lo hi old : Nat} (h : lo ≤ hi) (ho : lo ≤ old ∧ old ≤ hi) (fs : List Nat) (i : Nat) :
    lo ≤ setting fs i lo hi old ∧ setting fs i lo hi old ≤ hi := by
  unfold setting
  split
  · exact ho
  · exact clamp_mem h _

/-- A setting is the field at its nearest limit, or the old value. -/
theorem setting_eq (fs : List Nat) (i lo hi old : Nat) :
    setting fs i lo hi old = (fs[i]?.map fun v => max lo (min hi v)).getD old := by
  unfold setting clamp
  cases fs[i]? <;> rfl

/-- A field outside its range. -/
theorem outside_iff (fs : List Nat) (i lo hi : Nat) : outside fs i lo hi = true ↔ ∃ v, fs[i]? = some v ∧ (v < lo ∨ hi < v) := by
  unfold outside
  cases fs[i]? <;> simp

/-- The next number is again one of 1..65535. -/
theorem nextNumber_mem {n : Nat} (h : 1 ≤ n ∧ n ≤ 65535) : 1 ≤ nextNumber n ∧ nextNumber n ≤ 65535 := by
  unfold nextNumber; split <;> omega

/-- A counter stays a 32-bit count. -/
theorem ctr_le (n k : Nat) : ctr n k ≤ 4294967295 := by
  unfold ctr satAdd Config.counterTop; omega

/-- A 24-bit value saturated is a count. -/
theorem sat24_isCount (x : Int) : isCount (sat24 x) := by
  unfold isCount sat24; omega

/-- The bytes of a number, at the length asked for. -/
@[simp] theorem beBytes_length (n v : Nat) : (beBytes n v).length = n := by
  induction n generalizing v with
  | zero => rfl
  | succ n ih => simp [beBytes, ih]

/-- A field has its length. -/
@[simp] theorem field_length (n v : Nat) : (field n v).length = n := by simp [field]

/-- A signed field has its length. -/
@[simp] theorem signedField_length (n : Nat) (x : Int) : (signedField n x).length = n := by simp [signedField]

/-! ## Choosing a candidate -/

/-- What the choice has found is a place of the list, or what it had found before. -/
theorem bestFrom_mem {α : Type} (score : α → Option Int) (l : List α) (i : Nat) (acc : Option (Nat × Int)) {j : Nat} {v : Int}
    (h : bestFrom score l i acc = some (j, v)) : acc = some (j, v) ∨ (i ≤ j ∧ j < i + l.length) := by
  induction l generalizing i acc with
  | nil => exact .inl h
  | cons a as ih =>
    rcases ih _ _ h with h' | ⟨h1, h2⟩
    · cases hs : score a with
      | none => rw [hs] at h'; exact .inl h'
      | some w =>
        rw [hs] at h'
        cases acc with
        | none => cases h'; right; simp
        | some p =>
          obtain ⟨k, x⟩ := p
          simp only at h'
          split at h'
          · cases h'; right; simp
          · exact .inl h'
    · right; simp only [List.length_cons]; omega

/-- The best candidate is a place of the list. -/
theorem best_lt {α : Type} {score : α → Option Int} {l : List α} {i : Nat} (h : best score l = some i) : i < l.length := by
  unfold best at h
  cases hb : bestFrom score l 0 none with
  | none => rw [hb] at h; cases h
  | some p =>
    obtain ⟨j, v⟩ := p
    rw [hb] at h
    cases h
    rcases bestFrom_mem score l 0 none hb with h | ⟨-, h⟩
    · cases h
    · simpa using h

/-! ## Delivery -/

/-- The triples of a block, each with its own time, the first marked as asked. -/
theorem blockTriples_eq (period t : Nat) (disc : Bool) (xs : List (ZNE Int)) :
    blockTriples period t disc xs = xs.zipIdx.map fun (x, i) => ⟨x, t + i * period, false, disc && i == 0⟩ := by
  induction xs generalizing t disc with
  | nil => rfl
  | cons x xs ih =>
    simp only [blockTriples, ih, List.zipIdx_cons, List.map_cons, List.zipIdx_succ, List.map_map]
    congr 1
    · simp
    · refine List.map_congr_left fun a _ => ?_
      simp
      ring

/-- Filled triples are copies of one raw value, a period apart. -/
theorem filledTriples_eq (period : Nat) (raw : ZNE Int) (k t : Nat) :
    filledTriples period raw k t = (List.range k).map fun i => ⟨raw, t + i * period, true, false⟩ := by
  induction k generalizing t with
  | zero => rfl
  | succ k ih =>
    rw [filledTriples, ih, List.range_succ_eq_map]
    simp
    intros
    ring

end Sys2Proof.Machine
end

