-- ==== Sys2Proof/Laws/Onset.lean ====
section
/-! SUPPORT. The shared operations of the Onset Unit and the Association Unit: completion of several entries, the sweep of the
table, and the closing of events. -/

namespace Sys2Proof.Machine

/-- The picks that entries become, numbered on from `n`. -/
def picksFrom (s : State) (gap : Option Cause) : Nat → List Entry → List Pick
  | _, [] => []
  | n, e :: es => e.complete s.onset.phas (s.lminOf e) n gap :: picksFrom s gap (nextNumber n) es

/-- The pick number after `k` picks. -/
def numberAfter : Nat → Nat → Nat
  | n, 0 => n
  | n, k + 1 => numberAfter (nextNumber n) k

/-- Completing several entries: their picks go to the Association Unit in table order and take successive numbers; nothing else
changes. -/
theorem State.completeAll_eq (s : State) (gap : Option Cause) (es : List Entry) :
    s.completeAll gap es = { s with
      onset := { s.onset with nextPick := numberAfter s.onset.nextPick es.length }
      assoc := { s.assoc with picks := s.assoc.picks ++ picksFrom s gap s.onset.nextPick es } } := by
  unfold State.completeAll
  induction es generalizing s with
  | nil => simp [picksFrom, numberAfter]
  | cons e es ih =>
    rw [List.foldl_cons, ih]
    simp only [State.completeOne_onset, State.completeOne_assoc, List.length_cons, numberAfter, picksFrom]
    have hp : ∀ n, picksFrom (s.completeOne gap e) gap n es = picksFrom s gap n es := by
      intro n
      clear ih
      induction es generalizing n with
      | nil => rfl
      | cons a as ih =>
        simp only [picksFrom, ih]
        rfl
    rw [hp]
    simp [State.completeOne]

/-- As many picks as entries. -/
@[simp] theorem picksFrom_length (s : State) (gap : Option Cause) (n : Nat) (es : List Entry) :
    (picksFrom s gap n es).length = es.length := by
  induction es generalizing n with
  | nil => rfl
  | cons e es ih => simp [picksFrom, ih]

/-- What becomes of an entry that is touched or left, when it stays. -/
def stays (touch : Entry → Option Entry) (e : Entry) : Option Entry :=
  match touch e with
  | none => some e
  | some e' => if e'.isDone then none else some e'

/-- What becomes of it when it completes. -/
def completes (touch : Entry → Option Entry) (e : Entry) : Option Entry :=
  match touch e with
  | none => none
  | some e' => if e'.isDone then some e' else none

/-- A sweep: the entries that stay and those that complete, each in table order. -/
theorem sweep_eq (touch : Entry → Option Entry) (es : List Entry) :
    sweep touch es = (es.filterMap (stays touch), es.filterMap (completes touch)) := by
  induction es with
  | nil => rfl
  | cons e es ih =>
    unfold sweep
    rw [ih]
    cases h : touch e with
    | none => simp [stays, completes, h]
    | some e' =>
      by_cases hd : e'.isDone <;> simp [stays, completes, h, hd]

/-- A sweep never lengthens the table. -/
theorem sweep_length_le (touch : Entry → Option Entry) (es : List Entry) : (sweep touch es).1.length ≤ es.length := by
  rw [sweep_eq]; exact List.length_filterMap_le _ _

/-- A report handed on lengthens the outbox or is lost to DISCARD. -/
theorem State.handReport_eq (s : State) (r : EventReport) :
    s.handReport r = { s with outbox := s.outbox ++
      (match s.assoc.settings.queue with | none => [] | some q => [.report q r]) } := by
  unfold State.handReport
  cases s.assoc.settings.queue <;> simp

/-- CLOSE reports of several events lengthen the outbox alone. -/
theorem State.handCloses_eq (s : State) (cause : Event → CloseCause) (evs : List Event) :
    s.handCloses cause evs = { s with outbox := s.outbox ++ (match s.assoc.settings.queue with
      | none => []
      | some q => evs.map fun ev => .report q (ev.closeReport s.period (cause ev))) } := by
  unfold State.handCloses
  induction evs generalizing s with
  | nil => cases s.assoc.settings.queue <;> simp
  | cons ev evs ih =>
    rw [List.foldl_cons, ih, State.handReport_eq]
    cases h : s.assoc.settings.queue <;> simp [State.period]

/-- Closing events: they leave the table, the rest stay in order, and their CLOSE reports go to the outbox in table order. -/
theorem State.closeWhere_eq (s : State) (test : Event → Bool) (cause : Event → CloseCause) :
    s.closeWhere test cause = { s with
      assoc := { s.assoc with events := s.assoc.events.filter fun ev => !test ev }
      outbox := s.outbox ++ (match s.assoc.settings.queue with
        | none => []
        | some q => (s.assoc.events.filter test).map fun ev => .report q (ev.closeReport s.period (cause ev))) } := by
  unfold State.closeWhere
  rw [State.handCloses_eq]
  cases s.assoc.settings.queue <;> rfl

/-- The ACKN of an FLSH is placed or nothing happens. -/
theorem State.finishFlush_cases (s : State) : s.finishFlush = s ∨
    (s.flushing = true ∧ s.finishFlush =
      { s with flushing := false, link := { s.link with replies := s.link.replies ++ [.ackn 0x02 false false 0] } }) := by
  unfold State.finishFlush
  split
  · rename_i h
    simp only [Bool.and_eq_true] at h
    exact .inr ⟨h.1, rfl⟩
  · exact .inl rfl

end Sys2Proof.Machine
end

