-- ==== Sys2Proof/Laws/Queues.lean ====
section
/-! SUPPORT. The shared operations of the report queues and the snippet slots: replacing a queue with its starvation test, losses,
eviction, freeing and taking slots. -/

namespace Sys2Proof.Machine

/-! ## Replacing a queue -/

/-- A queue replaced: itself with starved set and STARVED raised, or as it is (R131). -/
theorem State.putQueue_cases (s : State) (i : Fin 4) (q : Queue) :
    (q.starves = true ∧ s.putQueue i q = { s with
      queues := s.queues.set i { q with starved := true }
      link := { s.link with notices := raiseNotice s.link.notices (.starved i) } }) ∨
    (q.starves = false ∧ s.putQueue i q = { s with queues := s.queues.set i q }) := by
  unfold State.putQueue
  by_cases h : q.starves = true
  · rw [if_pos h]; exact .inl ⟨h, rfl⟩
  · rw [if_neg h]; exact .inr ⟨by simpa using h, rfl⟩

/-- Replacing a queue changes that queue and the notice store alone. -/
theorem State.putQueue_eq (s : State) (i : Fin 4) (q : Queue) : ∃ x ns, (x = q ∨ x = { q with starved := true }) ∧
    s.putQueue i q = { s with queues := s.queues.set i x, link := { s.link with notices := ns } } := by
  rcases s.putQueue_cases i q with ⟨-, h⟩ | ⟨-, h⟩
  · exact ⟨_, _, .inr rfl, h⟩
  · exact ⟨_, s.link.notices, .inl rfl, h⟩

/-- The records of a queue replaced. -/
theorem State.putQueue_records (s : State) (i j : Fin 4) (q : Queue) :
    ((s.putQueue i q).queues.get j).records = if j = i then q.records else (s.queues.get j).records := by
  obtain ⟨x, ns, hx, h⟩ := s.putQueue_eq i q
  rw [h]
  simp only [Four.get_set]
  split
  · rcases hx with rfl | rfl <;> rfl
  · rfl

@[simp] theorem State.putQueue_snips (s : State) (i : Fin 4) (q : Queue) : (s.putQueue i q).snips = s.snips := by
  obtain ⟨x, ns, -, h⟩ := s.putQueue_eq i q
  rw [h]

@[simp] theorem State.putQueue_outbox (s : State) (i : Fin 4) (q : Queue) : (s.putQueue i q).outbox = s.outbox := by
  obtain ⟨x, ns, -, h⟩ := s.putQueue_eq i q
  rw [h]

@[simp] theorem State.putQueue_counters (s : State) (i : Fin 4) (q : Queue) : (s.putQueue i q).counters = s.counters := by
  obtain ⟨x, ns, -, h⟩ := s.putQueue_eq i q
  rw [h]

/-- After its test a queue no longer starves untold. -/
theorem State.putQueue_tested (s : State) (i : Fin 4) (q : Queue) : ((s.putQueue i q).queues.get i).starves = false := by
  rcases s.putQueue_cases i q with ⟨-, h⟩ | ⟨hq, h⟩
  · rw [h]; simp [Queue.starves]
  · rw [h]; simpa using hq

/-- A queue left empty is untimed and not ready; any other stands. -/
theorem Queue.settle_eq (q : Queue) : q.settle = { q with
    timer := if q.records = [] then .stopped else q.timer
    expiry := if q.records = [] then false else q.expiry
    ready := if q.records = [] then false else q.ready } := by
  unfold Queue.settle
  by_cases h : q.records = []
  · simp [h]
  · simp [h, List.isEmpty_iff]

@[simp] theorem Queue.settle_records (q : Queue) : q.settle.records = q.records := by rw [Queue.settle_eq]

@[simp] theorem Queue.makeReady_records (q : Queue) (c : Bool) : (q.makeReady c).records = q.records := rfl

@[simp] theorem Queue.accept_records (q : Queue) (rs : List Record) : (q.accept rs).records = q.records ++ rs := rfl

/-! ## Losses and slots -/

/-- Losses on a queue change its loss note, its counter and the notice store alone (R126). -/
theorem State.loseOn_eq (s : State) (i : Fin 4) (k : Nat) (h : k ≠ 0) : s.loseOn i k = { s with
    queues := s.queues.set i { s.queues.get i with lossNote := true }
    counters := { s.counters with poolLost := s.counters.poolLost.set i (ctr (s.counters.poolLost.get i) k) }
    link := { s.link with notices :=
      if (s.queues.get i).lossNote then s.link.notices else raiseNotice s.link.notices (.poolLoss i) } } := by
  unfold State.loseOn
  rw [if_neg h]
  simp only
  by_cases hl : (s.queues.get i).lossNote = true
  · simp only [hl, if_true]
    have hq : ({ s.queues.get i with lossNote := true } : Queue) = s.queues.get i := by
      cases hx : s.queues.get i
      rw [hx] at hl
      simp only at hl
      subst hl
      rfl
    rw [hq, Four.set_get_self]
  · simp only [hl, if_false, Bool.false_eq_true]
    rfl

/-- Slots freed: each of them has its reset value, the others stand (R152). -/
theorem State.freeSlots_get (s : State) (ns : List (Fin 8)) (n : Fin 8) :
    (s.freeSlots ns).snips.slots.get n = if n ∈ ns then .reset else s.snips.slots.get n := by
  unfold State.freeSlots
  induction ns generalizing s with
  | nil => simp
  | cons a as ih =>
    rw [List.foldl_cons, ih]
    simp only [State.freeSlot_snips, Eight.get_set, List.mem_cons]
    by_cases h1 : n ∈ as <;> by_cases h2 : n = a <;> simp [h1, h2]

/-- Freeing slots changes the slots alone. -/
theorem State.freeSlots_eq (s : State) (ns : List (Fin 8)) :
    s.freeSlots ns = { s with snips := { s.snips with slots := (s.freeSlots ns).snips.slots } } := by
  unfold State.freeSlots
  induction ns generalizing s with
  | nil => rfl
  | cons a as ih => rw [List.foldl_cons, ih]; rfl

/-- Taking a slot changes that slot and the counter of cuts alone (R142). -/
theorem State.takeSlot_eq (s : State) (n : Fin 8) (p : Pick) : ∃ k, s.takeSlot n p = { s with
    snips := { s.snips with slots := s.snips.slots.set n (s.snips.capture s.ring p).1 }
    counters := { s.counters with snippetCut := k } } := by
  unfold State.takeSlot
  cases h : s.snips.capture s.ring p with
  | mk x b =>
    cases b
    · exact ⟨_, rfl⟩
    · exact ⟨_, rfl⟩

/-- The lowest FREE slot. -/
theorem SnippetStore.lowestFree_iff (st : SnippetStore) : st.lowestFree.isSome = true ↔ ∃ n, (st.slots.get n).state = .free := by
  unfold SnippetStore.lowestFree
  rw [List.find?_isSome]
  constructor
  · rintro ⟨n, -, h⟩; exact ⟨n, by simpa using h⟩
  · rintro ⟨n, h⟩; exact ⟨n, by fin_cases n <;> decide, by simpa using h⟩

/-! ## Eviction (R125) -/

@[simp] theorem evictFrom_zero (rs : List Record) : evictFrom 0 rs = (rs, []) := by
  cases rs <;> rfl

/-- Every record either stays or is evicted. -/
theorem evictFrom_length (n : Nat) (rs : List Record) :
    (evictFrom n rs).1.length + (evictFrom n rs).2.length = rs.length := by
  fun_induction evictFrom n rs <;> simp_all <;> omega

/-- Those that stay keep their order. -/
theorem evictFrom_sublist (n : Nat) (rs : List Record) : (evictFrom n rs).1.Sublist rs := by
  fun_induction evictFrom n rs
  case case1 => exact List.Sublist.refl _
  case case2 => exact List.Sublist.refl _
  case case3 h ih => rw [h] at ih; exact (ih.cons _).cons _
  case case4 h ih => rw [h] at ih; exact ih.cons _
  case case5 h ih => rw [h] at ih; exact ih.cons _
  case case6 h ih => rw [h] at ih; exact ih.cons _
  case case7 h ih => rw [h] at ih; exact ih.cons_cons _

/-- The slots named by the records that stay and by those evicted are those of the queue. -/
theorem evictFrom_slots (n : Nat) (rs : List Record) (k : Fin 8) :
    (slotsOf (evictFrom n rs).1).count k + (slotsOf (evictFrom n rs).2).count k = (slotsOf rs).count k := by
  fun_induction evictFrom n rs <;> simp_all [slotsOf, List.count_cons] <;> omega

/-- Eviction from a queue with no victim changes nothing. -/
theorem State.evictQueue_none (s : State) (i : Fin 4) (n : Nat) (h : (evictFrom n (s.queues.get i).records).2 = []) :
    s.evictQueue i n = s := by
  unfold State.evictQueue
  simp only
  rw [h]
  rfl

/-- Eviction changes the queues, the slots, the loss counters and the notice store alone. -/
theorem State.evictQueue_eq (s : State) (i : Fin 4) (n : Nat) : ∃ qs sl lost ns, s.evictQueue i n = { s with
    queues := qs
    snips := { s.snips with slots := sl }
    counters := { s.counters with poolLost := lost }
    link := { s.link with notices := ns } } := by
  by_cases h : (evictFrom n (s.queues.get i).records).2 = []
  · exact ⟨s.queues, s.snips.slots, s.counters.poolLost, s.link.notices, s.evictQueue_none i n h⟩
  · unfold State.evictQueue
    simp only
    rw [if_neg (by simpa [List.isEmpty_iff] using h), State.loseOn_eq _ _ _ (by simpa using h), State.freeSlots_eq]
    obtain ⟨x, ns, -, hp⟩ := State.putQueue_eq _ i _
    rw [hp]
    exact ⟨_, _, _, _, rfl⟩

/-- Room is there, or is made by eviction in list order, or cannot be made (R124, R125). -/
theorem State.makeRoom_cases (s : State) (i : Fin 4) (n : Nat) :
    (s.poolHeld + n ≤ 96 ∧ s.makeRoom i n = some s) ∨
    (96 < s.poolHeld + n ∧
      s.poolHeld + n - 96 ≤ ((victimQueues i).map fun j => freeable (s.queues.get j).records).sum ∧
      s.makeRoom i n = some (s.evictAll (victimQueues i) (s.poolHeld + n - 96))) ∨
    (96 < s.poolHeld + n ∧
      ((victimQueues i).map fun j => freeable (s.queues.get j).records).sum < s.poolHeld + n - 96 ∧
      s.makeRoom i n = none) := by
  unfold State.makeRoom
  simp only [Config.poolSize]
  split
  · exact .inl ⟨by omega, rfl⟩
  · split
    · exact .inr (.inl ⟨by omega, by assumption, rfl⟩)
    · exact .inr (.inr ⟨by omega, by omega, rfl⟩)

end Sys2Proof.Machine
end

