-- ==== Sys2Proof/Laws/Ring.lean ====
section
/-! SUPPORT. The History Ring and what is read back from it: reads of held and of lost triples, the walk toward older triples, and
the bounds of energies and levels. -/

namespace Sys2Proof.Machine

/-! ## Reading and writing -/

/-- A triple held is read back. -/
theorem Ring.read_held {r : Ring} {idx : Nat} {t : Triple} (h : idx < r.written) (ht : r.held[r.written - 1 - idx]? = some t) :
    r.read idx = t := by
  simp [Ring.read, h, ht]

/-- A read gives a triple held or, where it is gone or not yet written, the free one. -/
theorem Ring.read_cases (r : Ring) (idx : Nat) : r.read idx ∈ r.held ∨ r.read idx = r.lost idx := by
  unfold Ring.read
  split
  · cases h : r.held[r.written - 1 - idx]? with
    | none => exact .inr rfl
    | some t => exact .inl (List.mem_of_getElem? h)
  · exact .inr rfl

@[simp] theorem Ring.write_written (r : Ring) (t : Triple) : (r.write t).written = r.written + 1 := rfl

/-- The ring stays full as triples are written. -/
theorem Ring.write_length {r : Ring} (t : Triple) (h : r.held.length = min r.written 4096) :
    (r.write t).held.length = min (r.write t).written 4096 := by
  simp only [Ring.write, Config.ringSize, List.length_take, List.length_cons]
  omega

/-- The newest triple is read back right after its write. -/
theorem Ring.read_newest (r : Ring) (t : Triple) : (r.write t).read r.written = t := by
  refine Ring.read_held (by simp) ?_
  simp [Ring.write, Config.ringSize]

/-! ## Ranges -/

/-- A 24-bit value is a count, whatever it is. -/
theorem toInt_isCount (v : BitVec 24) : isCount v.toInt := by
  have h1 := v.le_toInt
  have h2 := v.toInt_lt
  simp only [isCount]
  omega

/-- Conditioned values read are counts when those held are, a lost triple's too. -/
theorem Ring.read_isCount {r : Ring} (h : r.condBounded) (idx : Nat) :
    isCount (r.read idx).cond.z ∧ isCount (r.read idx).cond.n ∧ isCount (r.read idx).cond.e := by
  rcases r.read_cases idx with hm | hl
  · exact h _ hm
  · rw [hl]
    exact ⟨toInt_isCount _, toInt_isCount _, toInt_isCount _⟩

/-- The square of a count. -/
theorem isCount_sq {x : Int} (h : isCount x) : x.natAbs ^ 2 ≤ 2 ^ 46 := by
  have h1 : x.natAbs ≤ 2 ^ 23 := by
    unfold isCount at h
    omega
  calc x.natAbs ^ 2 ≤ (2 ^ 23) ^ 2 := Nat.pow_le_pow_left h1 2
    _ = 2 ^ 46 := by norm_num

/-- A level stays at or below any bound of the old level and the energy. -/
theorem levelStep_le {k old e b : Nat} (ho : old ≤ b) (he : e ≤ b) : levelStep k old e ≤ b := by
  unfold levelStep
  have hp : (0 : Int) < 2 ^ k := by positivity
  have h1 : ((e : Int) - old) / 2 ^ k ≤ max ((e : Int) - old) 0 := by
    rcases le_total ((e : Int) - old) 0 with h | h
    · exact le_trans (Int.ediv_nonpos_of_nonpos_of_neg h hp) (le_max_right _ _)
    · exact le_trans (Int.ediv_le_self _ h) (le_max_left _ _)
  have h2 : max ((e : Int) - old) 0 ≤ (b : Int) - old := by
    rw [max_le_iff]; constructor <;> omega
  omega

/-! ## The walk toward older triples (R23) -/

/-- A walk that ends at the oldest place asked for, a DISC triple or the oldest held; each step adds one triple in front. -/
theorem Ring.walkBack_length_le (r : Ring) (n idx : Nat) (acc : List Triple) :
    (r.walkBack n idx acc).length ≤ acc.length + n := by
  induction n generalizing idx acc with
  | zero => simp [Ring.walkBack]
  | succ n ih =>
    unfold Ring.walkBack
    simp only
    split
    · simp
    · refine le_trans (ih _ _) ?_
      simp only [List.length_cons]
      omega

/-- A walk keeps what it has collected behind what it adds. -/
theorem Ring.walkBack_append (r : Ring) (n idx : Nat) (acc : List Triple) :
    r.walkBack n idx acc = r.walkBack n idx [] ++ acc := by
  induction n generalizing idx acc with
  | zero => simp [Ring.walkBack]
  | succ n ih =>
    unfold Ring.walkBack
    simp only
    split
    · rfl
    · rw [ih _ (r.read idx :: acc), ih _ [r.read idx], List.append_assoc]
      rfl

end Sys2Proof.Machine
end

