-- ==== Sys2Proof/WellFormed.lean ====
section
/-! DEFINITION. Which commands name something the part has. Operands are typed as narrowly as the spec allows, so one check is
left: a hold timer belongs to one of the four queues (R129). -/

namespace Sys2Proof

/-- A command is well formed when the queue it names is one of queues 0 to 3. -/
def Instr.wellFormed : Instr → Bool
  | .holdTimerExpiry q => decide (q < 4)
  | _ => true

end Sys2Proof
end

