-- ==== Sys2Proof/Tests/Slice0.lean ====
section
/-! SUPPORT. Tests: the worked figures of the spec, one or two steps of each kind of command on small states, and for every
statement that has hypotheses a named witness that meets them, clause by clause, at boundary values. -/

namespace Sys2Proof.Tests

open Sys2Proof.Machine

set_option Elab.async false

/-! ## Helpers -/

/-- The state a command leaves (the state before, where it stops). -/
def after (c : Instr) (s : State) : State :=
  match exec c s with
  | .next t => t
  | _ => s

/-- A message in the inbound buffer. -/
def msg (code : Byte) (body : List Byte) (st : MsgStatus) : InMsg := ⟨code, some body.length, body, st⟩

/-- The state after reset with one message to decode. -/
def withMsg (code : Byte) (body : List Byte) (st : MsgStatus) : State :=
  { State.reset with link := { LinkPort.reset with redy := none, watch := .looking, inbox := [msg code body st] } }

/-- Such a message may be decoded. -/
theorem withMsg_decodes (code : Byte) (body : List Byte) {st : MsgStatus} (h : st ≠ .inProgress) :
    (withMsg code body st).decodes (msg code body st) := ⟨rfl, rfl, rfl, h, Nat.zero_lt_succ _⟩

/-- A triple whose conditioned values are given. -/
def triple (z n e : Int) (disc : Bool) (time : Nat) : Triple :=
  ⟨⟨z, n, e⟩, ⟨z, n, e⟩, ⟨false, false, false⟩, false, disc, time⟩

/-- A ring holding triples, oldest first, a period of 10000 apart. -/
def ringOf (zs : List Int) : Ring :=
  ⟨zs.length, (zs.zipIdx.map fun (z, i) => triple z 0 0 (i == 0) (10000 * i)).reverse⟩

/-- A feed that has taken `n` triples and holds the signals given. -/
def feedAt (n : Nat) (gs : List Signal) : Feed := ⟨n, gs⟩

/-! ## WellFormed -/

theorem test_wellFormed_refuses_a_fifth_queue : (Instr.holdTimerExpiry 4).wellFormed = false := by decide

theorem test_wellFormed_admits_queue_3 : (Instr.holdTimerExpiry 3).wellFormed = true := by decide

/-! ## Numbers, frame and conditioner (chapters 0 and 1, section 9.1) -/

/-- R5: the nine ASCII digits give 0x29B1. -/
theorem test_crc_of_the_digits : crc [0x31, 0x32, 0x33, 0x34, 0x35, 0x36, 0x37, 0x38, 0x39] = 0x29B1 := by decide +kernel

/-- R2: the floor of -7 / 4. -/
theorem test_floor : (-7 : Int) / 2 ^ 2 = -2 := by decide

/-- Section 9.1: a 24-bit count. -/
theorem test_signed24 : signed24 (beVal [0xFF, 0xF4, 0x48]) = -3000 := by decide

/-- Section 1.5: the worked offsets, the last with the clip level at 2500. -/
theorem test_offset_worked : nextOffset 10 8388607 1200 1712 = 1200 ∧ nextOffset 10 8388607 1200 (-3000) = 1195 ∧
    conditioned 1200 (-3000) = -4200 ∧ nextOffset 10 2500 1200 (-3000) = 1200 := by decide

/-- R20: saturation at both ends; R21: the most negative count is clipped at any level. -/
theorem test_saturation : conditioned (-8388608) 8388607 = 8388607 ∧ conditioned 8388607 (-8388608) = -8388608 ∧
    isClipped 8388607 (-8388608) = true ∧ isClipped 8388607 8388606 = false := by decide

/-- R4: a count of 0 and of 65 is dropped, 64 is kept. -/
theorem test_badCount : badCount 10000 (List.replicate 9 0 ++ [0]) = true ∧ badCount 10000 (List.replicate 9 0 ++ [65]) = true ∧
    badCount 10000 (List.replicate 9 0 ++ [64]) = false := by decide

/-! ## Detectors (section 2.7) -/

/-- The detector of the worked arithmetic: QUIET with S = 2500 and L = 2400. -/
def workedDet : Detector := { Detector.reset with state := .quiet, short := 2500, long := 2400 }

/-- The worked trigger: S 103437, L 3977, ratio 416, an unconfirmed episode, a PRIMARY request with reference 3977. -/
theorem test_worked_trigger :
    let x := workedDet.treat ⟨7, 70000⟩ (triple 900 0 0 false 0 |>.energy .v)
    x.state = .triggered ∧ x.short = 103437 ∧ x.long = 3977 ∧ x.ratio = 416 ∧
      x.requests = [.createPrimary 1 ⟨7, 70000⟩ 3977 false] := by decide +kernel

/-- The three triples after it: ratios 1495, 2158, 2497, and the confirmation falls due at length 4. -/
theorem test_worked_episode :
    let x := workedDet.treat ⟨7, 0⟩ 810000
    let y := x.treat ⟨8, 0⟩ 2250000
    let z := y.treat ⟨9, 0⟩ 1690000
    let w := z.treat ⟨10, 0⟩ 1210000
    y.short = 371757 ∧ y.ratio = 1495 ∧ z.ratio = 2158 ∧ w.ratio = 2497 ∧ w.short = 620719 ∧ w.long = 3977 ∧
      w.due = some (.confirmation ⟨10, 0⟩) := by decide +kernel

/-- The worked release: 24 goes on, 22 releases into RECOVERY without a request. -/
theorem test_worked_release :
    let x : Detector := { workedDet with
      state := .triggered, short := 6210, long := 3977, episode := some ⟨1, ⟨0, 0⟩, 3977, 976250, 731, 400, true⟩ }
    let y := x.treat ⟨900, 0⟩ 1600
    y.short = 5633 ∧ y.ratio = 22 ∧ y.state = .recovery ∧ y.episode = none ∧ y.requests = [] := by decide +kernel

/-- The worked secondary: S 976250, ratio 3927, reference the Sref before. -/
theorem test_worked_secondary :
    let x : Detector := { workedDet with
      state := .triggered, short := 150000, long := 3977, episode := some ⟨1, ⟨0, 0⟩, 3977, 103437, 299, 298, true⟩ }
    let y := x.treat ⟨300, 5⟩ 6760000
    y.ratio = 3927 ∧ y.requests = [.createSecondary 1 ⟨300, 5⟩ 103437 true] ∧
      y.episode.map (fun ep => (ep.sref, ep.since)) = some (976250, 0) := by decide +kernel

/-- R25's worked energy of Detector H. -/
theorem test_energy_h : (triple 0 (-700) 500 false 0).energy .h = 370000 := by decide

/-! ## Onset and measurement (chapters 2 and 3) -/

/-- The worked ring: quiet, then 20, -30, 40, 75, 60, 140, the trigger 900, then 1500, 1300. -/
def workedRing : Ring := ringOf [0, 0, 0, 20, -30, 40, 75, 60, 140, 900, 1500, 1300]

/-- The worked onset: T = 7954, the sample 140, one period before the trigger, EDGE clear. -/
theorem test_worked_onset : threshold 3977 32 = 7954 ∧
    onsetSearch workedRing .v 7954 .reset 0 ⟨9, 90000⟩ = (⟨8, 80000⟩, false) := by decide +kernel

/-- The worked polarity and grade: UP, snr16 4095, grade 3; and the worked phase: hv16 3, P. -/
theorem test_worked_polarity :
    let e := measureHeld workedRing 12 100 (newEntry .primary (.detector .v) none ⟨9, 90000⟩ ⟨8, 80000⟩ 3977 7954 100 true false)
    e.measured = 4 ∧ e.work.extremum = some (1500, 2) ∧ polarityOf e = .up ∧ snrOf 2250000 3977 100 = 4095 ∧
      gradeOf .reset 4095 = 3 ∧ hvOf 110000000 500000000 = 3 ∧ classify .reset 3 = .p := by decide +kernel

/-- R68: equal motion on the three components gives hv16 32, classed S. -/
theorem test_isotropic_is_S : hvOf 2 1 = 32 ∧ classify .reset 32 = .s ∧ classify .reset 12 = .p ∧ classify .reset 13 = .x := by
  decide

/-! ## Signatures (section 4.9) -/

/-- The worked signature of slot 5. -/
def workedPositions : List Position :=
  [⟨0, .ignore⟩, ⟨40, .compare⟩, ⟨90, .compare⟩, ⟨-60, .compare⟩, ⟨-110, .compare⟩, ⟨5, .ignore⟩, ⟨70, .compare⟩,
    ⟨-30, .compare⟩, ⟨20, .compare⟩, ⟨-15, .compare⟩, ⟨0, .stop⟩]

/-- N = 10, Ncmp = 8, and the window at n = 2010 scores 7. -/
theorem test_worked_score : slotLength workedPositions = 10 ∧ comparesOf workedPositions = 8 ∧
    scoreOf 500 workedPositions ([0, 900, 2400, -1800, -3100, 0, 2200, -700, 450, -900].map fun z => triple z 0 0 false 0) = 7 := by
  decide

/-- A score of 6 matches and 5 does not; -7 matches inverted. -/
theorem test_worked_levels :
    let x : SigSlot := { SigSlot.reset with compareCount := 8, m16 := 12, invert := true }
    x.isMatch 6 = true ∧ x.isMatch 5 = false ∧ x.isInverted (-7) = true ∧ x.isInverted (-5) = false := by decide

/-- R83: a value of -128 is stored as -127, and mask code 3 is END. -/
theorem test_writePair : ((SigSlot.reset.writePair (-128, 1)).positions.head? = some ⟨-127, .compare⟩) ∧
    maskOf 3 = .stop ∧ pairClamped 0 (-128, 1) = true ∧ pairClamped 255 (-127, 2) = false ∧ pairClamped 256 (0, 0) = true := by
  decide +kernel

/-! ## Events (sections 5.5 and 9.5) -/

/-- The worked S-P of event 88: 280 samples. -/
theorem test_worked_sp : spSamples 10000 (some ⟨302, 51200000⟩) (some ⟨301, 54000000⟩) = some 280 := by decide

/-- The worked EVNT of event 88: 32 bytes, with the presence and flags given. -/
theorem test_worked_evnt :
    let r : EventReport := ⟨88, some .quiet, 51200000, 4, true, true, some ⟨302, 51200000⟩, some ⟨301, 54000000⟩, some 280⟩
    r.body.length = 32 ∧ r.body.take 4 = [0x00, 0x58, 1, 1] ∧ (r.body.drop 10).take 6 = [0, 4, 0x03, 0x07, 0x01, 0x2E] ∧
      r.body.drop 30 = [0x01, 0x18] := by decide +kernel

/-! ## Classes and routes (section 6.1) -/

/-- A pick for the class examples. -/
def samplePick (kind : PickKind) (src : Source) (phase : Phase) (grade : Nat) (clipped : Bool) : Pick :=
  { number := 1, kind := kind, source := src, phase := phase, classification := phase, onset := ⟨0, 0⟩, triggerTime := 0
    grade := grade, polarity := .unclear, snr16 := 0, hv16 := 0, peakAmplitude := 0, peakComponent := .z, peakOffset := 0
    measured := 1, edge := false, clipped := clipped, filled := false, gapCause := none, long := false, inverted := false
    disagree := false, confirmedBy := none, coincident := none, score := none }

/-- The four worked classes: 48, 45, 22, 9. -/
theorem test_worked_classes :
    classIndex (samplePick .primary (.detector .v) .p 3 false) = 48 ∧
      classIndex (samplePick .secondary (.detector .h) .s 2 true) = 45 ∧
      classIndex (samplePick .signature (.slot 4) .s 1 false) = 22 ∧
      classIndex (samplePick .primary (.detector .h) .x 0 true) = 9 := by decide

/-- Section 9.5's PICK of 40 bytes: a confirmed-by slot of 3 and a score of 31. -/
theorem test_worked_pick_length :
    let p := { samplePick .primary (.detector .v) .p 3 false with confirmedBy := some 3, score := some 31 }
    (PickReport.mk p 0 .none .none).body.length = 40 ∧ p.presence = 0x05 ∧
      (PickReport.mk p 0 .none .none).body.drop 37 = [3, 0, 31] := by decide +kernel

/-! ## Snippets (section 7.3) -/

/-- R147: 200 triples at size 16 make 13 segments, the last of 8; a cut at 32 has a closing segment 2. -/
theorem test_segments :
    let x : SnipSlot := { SnipSlot.reset with size := 16, length := 200, complete := true }
    let y : SnipSlot := { SnipSlot.reset with size := 16, length := 32, complete := true, cut := true }
    x.lastSegment = 12 ∧ y.lastSegment = 2 := by decide

/-! ## One step of each kind of command -/

/-- Bring-up (section 10.2): RUN is answered and the port hunts. -/
theorem test_run : (after .run (withMsg 0x09 [] .complete)).port.input = .hunting ∧
    (after .run (withMsg 0x09 [] .complete)).link.replies = [.ackn 0x09 false false 0] := by decide +kernel

/-- RUN with the input not stopped is refused STATE. -/
theorem test_run_refused :
    let s := withMsg 0x09 [] .complete
    (after .run { s with port := { s.port with input := .hunting } }).link.replies = [.rfsd 0x09 .state] := by decide +kernel

/-- INPT with rate 60 takes the nearest rate 50 and says CLAMPED. -/
theorem test_inpt : (after .inpt (withMsg 0x08 [7, 0, 60] .complete)).port.settings.rate = .sps50 ∧
    (after .inpt (withMsg 0x08 [7, 0, 60] .complete)).link.replies = [.ackn 0x08 true false 2] := by decide +kernel

/-- STOP is answered in STOPPED. -/
theorem test_stop : (after .stop (withMsg 0x0A [] .complete)).link.replies = [.ackn 0x0A false false 0] := by decide +kernel

/-- A second 0xC3 keeps the framer ready for 0x3C. -/
theorem test_sampleCharacter :
    (after (.sampleCharacter 0x3C) (after (.sampleCharacter 0xC3) (after (.sampleCharacter 0xC3) State.reset))).port.framer =
      .receiving [] := by decide +kernel

/-- DETS disables both detectors. -/
theorem test_dets : (after .dets (withMsg 0x0C [2, 0] .complete)).detV.state = .off ∧
    (after .dets (withMsg 0x0C [2, 0] .complete)).detH.state = .off := by decide +kernel

/-- DETS raises kl to ks + 3. -/
theorem test_dets_pair : (after .dets (withMsg 0x0C [0, 1, 8, 4] .complete)).detV.settings.kl = 11 := by decide +kernel

/-- ONST below and above its ranges. -/
theorem test_onst : (after .onst (withMsg 0x0D [0, 0, 0, 0, 0, 0, 9] .complete)).onset.onst = ⟨8, 1, 16, 16, 9⟩ := by
  decide +kernel

/-- PHAS: a pair check. -/
theorem test_phas : (after .phas (withMsg 0x0E [0, 99, 0, 5] .complete)).onset.phas = ⟨99, 99, 1024, 12, 32⟩ := by decide +kernel

/-- EVTS to DISCARD. -/
theorem test_evts : (after .evts (withMsg 0x0F [0, 50, 0, 20, 10, 0, 1, 1, 0, 1, 9] .complete)).assoc.settings =
    ⟨50, 50, 10, 1, 256, true, none⟩ := by decide +kernel

/-- SNIP: pre + post at most 512. -/
theorem test_snip : (after .snip (withMsg 0x14 [200, 1, 144, 3] .complete)).snips.settings = ⟨200, 312, 4⟩ := by decide +kernel

/-- ROUT writes entry 63 and ignores the next. -/
theorem test_rout : ((after .rout (withMsg 0x10 [63, 0x82, 0x01] .complete)).routes[63]? = some ⟨some 2, true⟩) ∧
    (after .rout (withMsg 0x10 [63, 0x82, 0x01] .complete)).link.replies = [.ackn 0x10 true false 3] := by decide +kernel

/-- QSET on queue 4 is refused SLOT. -/
theorem test_qset : (after .qset (withMsg 0x11 [4, 1] .complete)).link.replies = [.rfsd 0x11 .slot] := by decide +kernel

/-- GRNT of 0 grants 1 and says CLAMPED. -/
theorem test_grnt : ((after .grnt (withMsg 0x12 [3, 0] .complete)).queues.get 3).credits = 1 ∧
    (after .grnt (withMsg 0x12 [3, 0] .complete)).link.replies = [.ackn 0x12 true false 2] := by decide +kernel

/-- QRST cut short is refused SHORT. -/
theorem test_qrst : (after .qrst (withMsg 0x13 [] .broken)).link.replies = [.rfsd 0x13 .short] := by decide +kernel

/-- SIGW makes slot 2 LOADING and moves its pointer. -/
theorem test_sigw : ((after .sigw (withMsg 0x18 [2, 0, 254, 5, 1, 6, 1, 7, 1] .complete)).bank.slots.get 2).writePtr = 256 ∧
    (after .sigw (withMsg 0x18 [2, 0, 254, 5, 1, 6, 1, 7, 1] .complete)).link.replies = [.ackn 0x18 true false 5] := by
  decide +kernel

/-- SIGE on an EMPTY slot is refused SLOT. -/
theorem test_sige : (after .sige (withMsg 0x19 [0, 0, 0, 0, 12, 0, 0, 0] .complete)).link.replies = [.rfsd 0x19 .slot] := by
  decide +kernel

/-- SIGD on an EMPTY slot is refused SLOT. -/
theorem test_sigd : (after .sigd (withMsg 0x1A [7] .complete)).link.replies = [.rfsd 0x1A .slot] := by decide +kernel

/-- An outbound code is unknown when received. -/
theorem test_unknownCode : (after .unknownCode (withMsg 0x41 [] .broken)).link.replies = [.rfsd 0x41 .unknown] := by decide +kernel

/-- STAT right after reset: both detectors in WARMUP. -/
theorem test_stat : ((after .stat (withMsg 0x03 [] .complete)).link.replies.map Reply.body).map List.length = [39] := by
  decide +kernel

/-- CNTR without the clear flag keeps the counters. -/
theorem test_cntr :
    let s := withMsg 0x04 [0] .complete
    (after .cntr { s with counters := { s.counters with glitches := 5 } }).counters.glitches = 5 := by decide +kernel

/-- FLSH is not answered while a reader has still to take it. -/
theorem test_flsh : (after .flsh (withMsg 0x02 [] .complete)).flushing = true ∧
    (after .flsh (withMsg 0x02 [] .complete)).link.replies = [] := by decide +kernel

/-- RSTR places REDY with cause COMMAND. -/
theorem test_rstr : (after .rstr (withMsg 0x01 [] .complete)).link.redy = some .command := by decide +kernel

/-- After pin reset REDY is sent with revision 1 and cause 1. -/
theorem test_redy : (after .redy State.reset).link.current = some ⟨true, 0x49⟩ ∧
    (after .redy State.reset).link.rest = [⟨false, 2⟩, ⟨false, 1⟩, ⟨false, 1⟩] := by decide +kernel

/-- The opener, length and body of a message on the link. -/
theorem test_linkCharacter :
    let s := after .lineReturnsToMark State.reset
    let t := after (.linkCharacter false 3 true) (after (.linkCharacter false 1 true) (after (.linkCharacter true 0x13 true) s))
    t.link.inbox = [⟨0x13, some 1, [3], .complete⟩] := by decide +kernel

/-- A length of 251 breaks the message. -/
theorem test_linkCharacter_long :
    let s := after .lineReturnsToMark State.reset
    let t := after (.linkCharacter false 251 true) (after (.linkCharacter true 0x18 true) s)
    t.link.inbox = [⟨0x18, some 251, [], .broken⟩] ∧ t.counters.linkBrokenMessages = 1 := by decide +kernel

/-- A line break is no framing error; a lone all-zero character is one once the line returns to mark. -/
theorem test_lineBreak :
    let s := after .lineReturnsToMark State.reset
    let u := after (.linkCharacter false 0 false) s
    (after .lineReturnsToMark u).counters.linkFramingErrors = 1 ∧
      (after .lineReturnsToMark (after .lineBreak u)).counters.linkFramingErrors = 0 := by decide +kernel

/-- The peer's HOLD stops a message between two characters, and its GO lets it on. -/
theorem test_peerHold :
    let s := after .lineReturnsToMark State.reset
    let u := after .characterBoundary (after .peerHold (after .redy s))
    u.link.current = none ∧ (after .peerGo u).link.current = some ⟨false, 2⟩ := by decide +kernel

/-- A flow character is sent whatever the peer HOLD state. -/
theorem test_ownHold :
    let s : State := { State.reset with link := { LinkPort.reset with flow := some .hold, peerHold := true } }
    (after .ownHold s).link.current = some ⟨true, 0xFE⟩ := by decide +kernel

/-- A hold time of 2 ms expires on the second tick. -/
theorem test_localTick :
    let q : Queue := { Queue.reset with records := [.evnt ⟨1, none, 0, 1, false, false, none, none, none⟩], hold := 2, timer := .running 0 }
    let s : State := { State.reset with queues := State.reset.queues.set 1 q }
    ((after .localTick s).queues.get 1).timer = .running 1 ∧
      ((after .localTick (after .localTick s)).queues.get 1).timer = .expired := by decide +kernel

/-- R17: with a signal GAP raised after triple 8 and not yet taken by the Onset Unit, a request on triple 9 waits in its channel; raised
after triple 9, it does not hold the request back. -/
theorem test_request_waits_for_the_signal :
    let s (w : Nat) : State := { State.reset with
      ring := workedRing
      detV := { Detector.reset with requests := [.createPrimary 1 ⟨9, 90000⟩ 3977 false] }
      onset := { OnsetUnit.reset with feed := feedAt 5 [⟨.gap, w⟩] } }
    after (.createPrimary .v) (s 9) = s 9 ∧ (after (.createPrimary .v) (s 10)).onset.table.length = 1 := by decide +kernel

/-- R17: a pick with a snippet item waits while its onset was written after a signal that the Snippet Store has still to take. -/
theorem test_arrival_waits_for_the_signal :
    let p : PickReport := ⟨{ samplePick .primary (.detector .v) .p 3 false with onset := ⟨8, 80000⟩ }, 0, .none, .snippet⟩
    let s (w : Nat) : State := { State.reset with
      ring := workedRing, outbox := [.routed 2 p], snips := { SnippetStore.reset with feed := feedAt 5 [⟨.gap, w⟩] } }
    after .queueArrival (s 8) = s 8 ∧ (after .queueArrival (s 9)).outbox = [] := by decide +kernel

/-! ## Witnesses of the statements' hypotheses -/

/-! ### The step, the queue and reset -/

theorem witness_StepTakesFrontCommand :
    ({ State.reset with pending := [.run, .stop] } : State).pending = Instr.run :: [.stop] := rfl

theorem witness_EveryCommandKeepsTheQueue : exec .characterBoundary State.reset = .next State.reset := rfl

/-- A complete RSTR; a broken one with seven replies and with eight. -/
theorem witness_RstrResetsThePart :
    let full (n : Nat) (st : MsgStatus) : State :=
      { withMsg 0x01 [] st with link := { (withMsg 0x01 [] st).link with replies := List.replicate n (.ackn 1 false false 0) } }
    (∀ n st, (full n st).resetLow = false ∧ (full n st).flushing = false ∧
      (full n st).link.inbox.head? = some (msg 0x01 [] st) ∧ (msg 0x01 [] st).code = 0x01) ∧
    (msg 0x01 [] .complete).status = .complete ∧ (msg 0x01 [] .broken).status = .broken ∧
    (full 7 .broken).link.replies.length < 8 ∧ 8 ≤ (full 8 .broken).link.replies.length :=
  ⟨fun _ _ => ⟨rfl, rfl, rfl, rfl⟩, rfl, rfl, by decide, by decide⟩

theorem witness_ResetLeavesResetValues :
    ({ State.reset with resetLow := true } : State).resetLow = true ∧ (∀ a b, Instr.run ≠ .pinReset a b) ∧
      Instr.run ≠ .resetnLow := by
  exact ⟨rfl, fun _ _ => by simp, by decide⟩

/-! ### The sample port -/

/-- The state after reset with the framer given. -/
def framing (f : Framer) : State := { State.reset with port := { SamplePort.reset with framer := f } }

/-- A header of nine bytes: stream 0, sequence, first time. -/
def header (seq first : Nat) : List Byte := [0] ++ beBytes 2 seq ++ beBytes 6 first

/-- Searching with and without a byte held; the lengths 9 and 10 of a frame, its count at 0, 1, 64 and 65, times that just do not
fit, a byte in the middle, and a wrong check. -/
theorem witness_FramerFindsAndChecksFrames :
    (framing (.searching true)).port.waiting = none ∧
    ({ framing (.searching false) with port := { (framing (.searching false)).port with
      waiting := some ⟨0, 0, 0, []⟩ } } : State).port.waiting ≠ none ∧
    (let bad (bs : List Byte) (b : Byte) : Prop :=
      b.toNat = 0 ∨ 64 < b.toNat ∨ 2 ^ 48 - 1 < beVal (((bs ++ [b]).drop 3).take 6) + (b.toNat - 1) * State.reset.period
     ((header 1 5).dropLast ++ [(0 : Byte)]).length < 10 ∧ ¬bad (header 1 5) 64 ∧ ¬bad (header 1 5) 1 ∧
      ¬bad (header 1 (2 ^ 48 - 1)) 1 ∧ bad (header 1 5) 0 ∧ bad (header 1 5) 65 ∧ bad (header 1 (2 ^ 48 - 10000)) 2 ∧
      (header 1 5 ++ [(64 : Byte)]).length = 10) ∧
    (let bs := header 1 5 ++ [1] ++ List.replicate 9 (0 : Byte)
     10 < (bs ++ [(7 : Byte)]).length ∧ (bs ++ [(7 : Byte)]).length ≠ 12 + 9 * frameCount (bs ++ [7])) ∧
    (let whole := header 1 5 ++ [1] ++ List.replicate 11 (0 : Byte)
     whole.length = 12 + 9 * frameCount whole ∧
      (crc (whole.take (whole.length - 2))).toNat ≠ beVal (whole.drop (whole.length - 2))) := by
  decide +kernel

/-- The bytes of a one-triple block whose counts are all 1, with its check. -/
def frameOf (seq first : Nat) : List Byte :=
  let bs := header seq first ++ [1, 0, 0, 1, 0, 0, 1, 0, 0, 1]
  bs ++ beBytes 2 (crc bs).toNat

/-- The port with all but the last byte of that frame read. -/
def arriving (seq first : Nat) (p : SamplePort) : State :=
  { State.reset with port := { p with framer := .receiving (frameOf seq first).dropLast } }

/-- The block it spells. -/
def blockOf (seq first : Nat) : Block := ⟨0, seq, first, [⟨1, 1, 1⟩]⟩

/-- Its last byte completes the block, whatever the rest of the port holds, while no block waits. -/
theorem arriving_checks (p : SamplePort) (h : p.waiting = none) :
    (arriving 5 200000 p).checksBlock ((frameOf 5 200000).getLastD 0) (blockOf 5 200000) :=
  ⟨rfl, h, _, rfl, by decide +kernel, by decide +kernel, by decide +kernel⟩

/-- Another stream; STOPPED; the last sequence number at the expected time; HUNTING and RUNNING with the buffer busy; HUNTING with it
idle. -/
theorem witness_CheckedBlockMeetsItsTests :
    let p := SamplePort.reset
    let busy : List PortTriple := [⟨⟨0, 0, 0⟩, 0, false, false⟩]
    (∀ x, x ∈ [{ p with settings := { p.settings with stream := 9 } }, p,
        { p with input := .running, lastSeq := some 5, expected := some 200000 },
        { p with input := .running, lastSeq := some 5, expected := some 199999, delivering := busy },
        { p with input := .hunting, delivering := busy }, { p with input := .hunting }] →
      (arriving 5 200000 x).checksBlock ((frameOf 5 200000).getLastD 0) (blockOf 5 200000)) ∧
    (blockOf 5 200000).stream ≠ 9 ∧ (blockOf 5 200000).stream = p.settings.stream ∧ p.input = .stopped ∧
    (blockOf 5 200000).first ≤ 200000 ∧ ¬(blockOf 5 200000).first ≤ 199999 ∧ busy ≠ [] := by
  refine ⟨?_, by decide, rfl, rfl, by decide, by decide, by decide⟩
  intro x hx
  simp only [List.mem_cons, List.not_mem_nil, or_false] at hx
  rcases hx with rfl | rfl | rfl | rfl | rfl | rfl <;> exact arriving_checks _ rfl

/-- RUNNING and idle, with the expected time that puts the block at each boundary of d: -5000, -4999, 4999, 5000, and the last time that
is filled and the first that is not (a fill limit of 4, a period of 10000). -/
theorem witness_RunningBlockIsJudgedByItsTime :
    let p (x : Nat) : SamplePort := { SamplePort.reset with input := .running, lastSeq := some 4, expected := some x }
    (∀ x, (arriving 5 200000 (p x)).checksBlock ((frameOf 5 200000).getLastD 0) (blockOf 5 200000) ∧
      (p x).input = .running ∧ (p x).expected = some x ∧ (p x).delivering = [] ∧
      ¬((p x).lastSeq = some (blockOf 5 200000).sequence ∧ (blockOf 5 200000).first ≤ x)) ∧
    (let d (x : Nat) : Int := (200000 : Int) - x
     let k (x : Nat) : Nat := ((d x + (10000 / 2 : Nat)) / (10000 : Nat)).toNat
     (-(10000 / 2 : Nat) < d 204999 ∧ d 204999 < (10000 / 2 : Nat)) ∧ (-(10000 / 2 : Nat) < d 195001 ∧ d 195001 < (10000 / 2 : Nat)) ∧
      ((10000 / 2 : Nat) ≤ d 195000 ∧ k 195000 = 1) ∧ ((10000 / 2 : Nat) ≤ d 155001 ∧ k 155001 = 4) ∧
      ((10000 / 2 : Nat) ≤ d 155000 ∧ 4 < k 155000) ∧ d 205000 ≤ -(10000 / 2 : Nat)) ∧
    State.reset.period = 10000 ∧ State.reset.port.settings.fillLimit = 4 := by
  refine ⟨fun x => ⟨arriving_checks _ rfl, rfl, rfl, rfl, ?_⟩, by decide, rfl, rfl⟩
  rintro ⟨h, -⟩
  revert h
  show ¬(some 4 = some 5)
  decide

/-- A state delivering triples. -/
def delivering (ts : List PortTriple) (w : Nat) : State :=
  { State.reset with
    port := { SamplePort.reset with delivering := ts }
    ring := ⟨w, []⟩, offsets := some ⟨0, 0, 0⟩ }

/-- The last triple of a delivery in RUNNING with a block waiting whose first time is 200000, where `x` is expected. -/
def exchanging (x : Nat) : State :=
  { delivering [⟨⟨1, 2, 3⟩, 70000, false, false⟩] 0 with
    port := { SamplePort.reset with
      delivering := [⟨⟨1, 2, 3⟩, 70000, false, false⟩], waiting := some (blockOf 5 200000), input := .running, expected := some x } }

/-- The first triple of a run, the first after FLSH, one within a run; the ring at its last free position and full; a block that waits and
is continuous by half a period less 1. A waiting block at each boundary of d: -5000, -4999, 4999, 5000, and the last time that is filled
and the first that is not (a fill limit of 4, a period of 10000). -/
theorem witness_ConditionTripleWritesTheRing :
    let t : PortTriple := ⟨⟨1, 2, 3⟩, 70000, false, false⟩
    let bk : Block := ⟨0, 1, 84999, [⟨1, 1, 1⟩]⟩
    ((delivering [t] 0).resetLow = false ∧ (delivering [t] 0).port.delivering = t :: [] ∧ (delivering [t] 0).port.waiting = none ∧
      (delivering [t] 0).offsets = some ⟨0, 0, 0⟩ ∧ t.disc = false ∧ (delivering [t] 0).port.flushNote = false) ∧
    (∀ f ∈ (delivering [t] 4095).feeds, (delivering [t] 4095).ring.written < f.taken + 4096) ∧
    (∃ f ∈ (delivering [t] 4096).feeds, f.taken + 4096 ≤ (delivering [t] 4096).ring.written) ∧
    ({ t with disc := true } : PortTriple).disc = true ∧
    ({ SamplePort.reset with flushNote := true } : SamplePort).flushNote = true ∧
    2 * timeDist bk.first 80000 < State.reset.period ∧
    (∀ x, (exchanging x).resetLow = false ∧ (exchanging x).port.delivering = [t] ∧
      (exchanging x).port.waiting = some (blockOf 5 200000) ∧ (exchanging x).port.input = .running ∧
      (exchanging x).port.expected = some x ∧ (exchanging x).period = 10000 ∧ (exchanging x).port.settings.fillLimit = 4 ∧
      ∀ f ∈ (exchanging x).feeds, (exchanging x).ring.written < f.taken + 4096) ∧
    (let half : Int := (10000 / 2 : Nat)
     let d (x : Nat) : Int := (200000 : Int) - x
     let k (x : Nat) : Nat := ((d x + half) / (10000 : Nat)).toNat
     (-half < d 204999 ∧ d 204999 < half) ∧ (-half < d 195001 ∧ d 195001 < half) ∧ (half ≤ d 195000 ∧ k 195000 ≤ 4) ∧
      (half ≤ d 155001 ∧ k 155001 ≤ 4) ∧ (half ≤ d 155000 ∧ 4 < k 155000) ∧ d 205000 ≤ -half) ∧
    (((ringOf [1, 2, 3]).write (triple 4 0 0 false 30000)).oldest ≤ 0 ∧ 2 < (ringOf [1, 2, 3]).written) := by
  refine ⟨⟨rfl, rfl, rfl, rfl, rfl, rfl⟩, by decide, ⟨State.reset.detV.feed, by decide, by decide⟩, rfl, rfl, by decide, fun x => ?_,
    by decide, by decide⟩
  exact ⟨rfl, rfl, rfl, rfl, rfl, rfl, rfl, (by decide : ∀ f ∈ State.reset.feeds, (0 : Nat) < f.taken + 4096)⟩

/-- INPT in STOPPED and in HUNTING; RUN and STOP, complete, in STOPPED and in RUNNING. -/
theorem witness_InputMessagesDriveTheInputState :
    (withMsg 0x08 [1] .broken).decodes (msg 0x08 [1] .broken) ∧ (withMsg 0x09 [] .complete).decodes (msg 0x09 [] .complete) ∧
    (withMsg 0x0A [] .complete).decodes (msg 0x0A [] .complete) ∧ (msg 0x09 [] .complete).status = .complete ∧
    (withMsg 0x08 [1] .broken).port.input = .stopped ∧ InputState.hunting ≠ .stopped ∧ InputState.running ≠ .stopped :=
  ⟨withMsg_decodes _ _ (by decide), withMsg_decodes _ _ (by decide), withMsg_decodes _ _ (by decide), rfl, rfl, by decide, by decide⟩

/-! ### Detectors -/

/-- Counts at and inside the clip level, a smallest level floor, a level at, below and above the energy. -/
theorem witness_FloorDivisionRoundsDown :
    isClipped 100 99 = false ∧ isClipped 100 100 = true ∧ (0 : Nat) < 1 ∧ (5 : Nat) ≤ 5 ∧ (4 : Nat) < 5 := by decide

/-- The extreme counts, the worked triple, and two triples that differ in marks alone. -/
theorem witness_EnergyOfATriple :
    isCount (-8388608) ∧ isCount 8388607 ∧ (triple 0 (-700) 500 false 0).cond.n = -700 ∧
      (triple 0 (-700) 500 false 0).cond.e = 500 ∧
      (triple 1 2 3 false 0).cond = ({ triple 1 2 3 true 9 with filled := true } : Triple).cond := by
  refine ⟨?_, ?_, rfl, rfl, rfl⟩ <;> constructor <;> decide

/-- A part whose ring holds one triple of energy 0 and whose Detector V is as given. -/
def withDet (x : Detector) : State := { State.reset with ring := ringOf [0], detV := x }

/-- QUIET with the ratio at 55 and at 56 (S 55 and 56 over an Lmin of 16); WARMUP on its first triple and its last; RECOVERY on its
last. -/
theorem witness_LevelsAreUpdatedByState :
    let low : DetSettings := { DetSettings.reset with lmin := 16 }
    let quiet (S : Nat) : Detector := { Detector.reset with state := .quiet, short := S, settings := low }
    let r (S : Nat) : Nat := min 4095 (16 * levelStep 3 S 0 / max (levelStep 9 0 0) 16)
    (∀ S, (withDet (quiet S)).resetLow = false ∧ ((withDet (quiet S)).det .v).state = .quiet ∧
      ((withDet (quiet S)).det .v).due = none ∧ ((withDet (quiet S)).det .v).feed.tripleReady (withDet (quiet S)).ring = true ∧
      ((withDet (quiet S)).ring.read 0).energy .v = 0) ∧
    (r 63 = 55 ∧ r 63 < low.onLevel) ∧ (r 64 = 56 ∧ low.onLevel ≤ r 64) ∧
    (Detector.reset.state = .warmup ∧ Detector.reset.warmupCount = 0 ∧ ¬2 ^ Detector.reset.settings.kl ≤ 510 + 1 ∧
      2 ^ Detector.reset.settings.kl ≤ 511 + 1) ∧
    ({ Detector.reset with state := .recovery, recoveryCount := 99 } : Detector).state = .recovery ∧
      Detector.reset.settings.recovery ≤ 99 + 1 :=
  ⟨fun _ => ⟨rfl, rfl, rfl, rfl, rfl⟩, by decide, by decide, by decide, rfl, by decide⟩

/-- TRIGGERED with the ratio at 23 and at 24; at the max duration and below it; at the min duration unconfirmed; with the secondary test met
and failed by the separation. -/
theorem witness_TriggeredTripleReleasesOrGoesOn :
    let low : DetSettings := { DetSettings.reset with lmin := 16 }
    let ep : Episode := ⟨1, ⟨0, 0⟩, 0, 5, 3, 49, false⟩
    let trig (S : Nat) : Detector := { Detector.reset with state := .triggered, short := S, episode := some ep, settings := low }
    let r (S : Nat) : Nat := min 4095 (16 * levelStep 3 S 0 / max 0 16)
    (∀ S, (withDet (trig S)).resetLow = false ∧ ((withDet (trig S)).det .v).state = .triggered ∧
      ((withDet (trig S)).det .v).episode = some ep ∧ ((withDet (trig S)).det .v).due = none ∧
      ((withDet (trig S)).det .v).feed.tripleReady (withDet (trig S)).ring = true) ∧
    (r 27 = 23 ∧ r 27 < low.offLevel) ∧ (r 28 = 24 ∧ low.offLevel ≤ r 28) ∧
    (low.maxDuration ≤ 5999 + 1 ∧ ep.length + 1 < low.maxDuration) ∧
    (ep.confirmed = false ∧ low.minDuration ≤ ep.length + 1 ∧ 2 + 1 < low.minDuration) ∧
    (0 * low.k2 ≤ 16 * levelStep 3 28 0 ∧ low.separation ≤ 49 + 1 ∧ ¬low.separation ≤ 48 + 1) :=
  ⟨fun _ => ⟨rfl, rfl, rfl, rfl, rfl⟩, by decide, by decide, by decide, by decide, by decide⟩

/-- Each second half due, with its episode; the secondary test met and failed. -/
theorem witness_SecondHalfOfATriplesTreatment :
    let ep : Episode := ⟨1, ⟨0, 0⟩, 0, 4, 4, 50, false⟩
    let trig : Detector := { Detector.reset with state := .triggered, short := 10, episode := some ep }
    ((withDet { trig with due := some (.confirmation ⟨0, 0⟩) }).det .v).due = some (.confirmation ⟨0, 0⟩) ∧
    ((withDet { trig with due := some .forcedRelease }).det .v).due = some .forcedRelease ∧ trig.episode = some ep ∧
    (ep.sref * 40 ≤ 16 * 10 ∧ 50 ≤ ep.since) ∧ ¬(ep.sref * 41 ≤ 16 * 10 ∧ 50 ≤ ep.since) ∧
    ((withDet { Detector.reset with due := some .warmupEnd }).det .v).due = some .warmupEnd ∧
    ((withDet { Detector.reset with state := .recovery, due := some .recoveryEnd }).det .v).due = some .recoveryEnd ∧
    ((withDet Detector.reset).det .v).due = none ∧ (withDet Detector.reset).resetLow = false ∧
    (let other := ((withDet { trig with due := some .forcedRelease }).det .v).due
     (∀ here, other ≠ some (.confirmation here)) ∧ other ≠ some .warmupEnd ∧ other ≠ some .recoveryEnd ∧
      ((withDet { Detector.reset with due := some .warmupEnd }).det .v).due ≠ some .forcedRelease) := by
  refine ⟨rfl, rfl, rfl, by decide, by decide, rfl, rfl, rfl, rfl, fun _ h => ?_, by decide, by decide, by decide⟩
  cases h

/-- OFF with a triple to take, with a GAP signal and with FLUSH; a coherent detector and a command that is no DETS and no reset. -/
theorem witness_OffDetectorTreatsNothing :
    let off (f : Feed) : Detector :=
      { Detector.reset with state := .off, feed := f, settings := { DetSettings.reset with enabled := false } }
    ((withDet (off (feedAt 0 []))).det .v).state = .off ∧ (off (feedAt 0 [])).due = none ∧
    (off (feedAt 0 [])).feed.tripleReady (withDet (off (feedAt 0 []))).ring = true ∧
    (feedAt 1 [⟨.gap, 1⟩]).signalReady = some .gap ∧ (feedAt 0 [⟨.flush, 1⟩]).signalReady = some .flush ∧
    (off (feedAt 0 [])).coherent ∧ (∃ t, exec .run State.reset = .next t) ∧ (∀ a b, Instr.run ≠ .pinReset a b) := by
  refine ⟨rfl, rfl, rfl, rfl, rfl, ⟨?_, ?_, ?_, trivial⟩, ⟨_, rfl⟩, fun _ _ => by simp⟩ <;> decide

theorem witness_SignalRestartsTheWarmup :
    let x (c : Cause) : Detector := { Detector.reset with state := .quiet, feed := feedAt 1 [⟨c, 1⟩] }
    ∀ c, ((withDet (x c)).det .v).state ≠ .off ∧ ((withDet (x c)).det .v).due = none ∧
      ((withDet (x c)).det .v).feed.signalReady = some c ∧ (withDet (x c)).resetLow = false := by
  intro x c
  cases c <;> exact ⟨by decide, rfl, rfl, rfl⟩

/-- DETS to both detectors that sets the min duration alone by sending every earlier field at its default, and one without a selector. -/
theorem witness_DetsStoresTheSelectedSettings :
    (withMsg 0x0C [2, 1, 3, 9] .complete).decodes (msg 0x0C [2, 1, 3, 9] .complete) ∧
    (let fs := takeFields [1, 1, 1, 1, 4, 2, 2, 1, 2, 1, 2, 2] [(2 : Byte), 1, 3, 9]
     fs = [2, 1, 3, 9] ∧ (∃ v, fs[0]? = some v ∧ 2 ≤ v) ∧ fs[1]? ≠ some 0) ∧
    State.reset.detV.due = none ∧ State.reset.detH.due = none ∧ State.reset.detV.state ≠ .off ∧ State.reset.detH.state ≠ .off ∧
    max ((some 9).map (fun v => max 4 (min 14 v)) |>.getD 0) (3 + 3) = State.reset.detV.settings.kl :=
  ⟨withMsg_decodes _ _ (by decide), ⟨by decide, ⟨2, by decide, by decide⟩, by decide⟩, rfl, rfl, by decide, by decide, by decide⟩

/-- DETS that enables Detector V, OFF or not; then one that disables, and one that changes ks from 3 to 4; and one that disables both
detectors, with nothing due. -/
theorem witness_DetsChangesTheDetectorState :
    (withMsg 0x0C [0, 1] .complete).decodes (msg 0x0C [0, 1] .complete) ∧
    takeFields [1, 1, 1, 1, 4, 2, 2, 1, 2, 1, 2, 2] [(0 : Byte), 1] = [0, 1] ∧
    (withDet { Detector.reset with state := .off }).detV.state = .off ∧ State.reset.detV.state ≠ .off ∧
    ([0, 0] : List Nat)[1]? = some 0 ∧ ([0, 1, 4] : List Nat)[1]? ≠ some 0 ∧
    (DetSettings.reset.store [0, 1, 4]).pairs.ks ≠ DetSettings.reset.ks ∧ ([0] : List Nat)[1]? = none ∧
    ({ Detector.reset with feed := feedAt 0 [] } : Detector).feed.tripleReady (ringOf [0]) = true ∧
    (withMsg 0x0C [2, 0] .complete).decodes (msg 0x0C [2, 0] .complete) ∧
    (∀ d, ((withMsg 0x0C [2, 0] .complete).det d).due = none) ∧
    (∃ v, (takeFields [1, 1, 1, 1, 4, 2, 2, 1, 2, 1, 2, 2] [(2 : Byte), 0])[0]? = some v ∧ 2 ≤ v) ∧
    (takeFields [1, 1, 1, 1, 4, 2, 2, 1, 2, 1, 2, 2] [(2 : Byte), 0])[1]? = some 0 := by
  refine ⟨withMsg_decodes _ _ (by decide), by decide, rfl, by decide, rfl, by decide, by decide, rfl, by decide,
    withMsg_decodes _ _ (by decide), ?_, ⟨2, by decide, by decide⟩, by decide⟩
  rintro (_ | _) <;> rfl

/-! ### The Onset Unit -/

/-- The worked ring: a stretch with a hit, EDGE clear; the same with a look-back of 8 whose stretch ends within the run, EDGE set; and a
threshold that nothing reaches. -/
theorem witness_OnsetSearchFindsTheOldestRise :
    let hit (i : Nat) : Prop := (workedRing.read i).filled = false ∧ 7954 ≤ (workedRing.read i).energy .v
    1 ≤ OnsetSettings.reset.runLength ∧ workedRing.oldest ≤ 9 ∧ (6 : Nat) ≤ 9 ∧
    (hit 9 ∧ (onsetSearch workedRing .v 7954 .reset 0 ⟨9, 90000⟩).2 = false) ∧
    (onsetSearch workedRing .v 7954 .reset 6 ⟨9, 90000⟩).2 = true ∧
    ¬hit 3 ∧ onsetSearch workedRing .v 7954 .reset 0 ⟨3, 30000⟩ = (⟨3, 30000⟩, true) := by
  decide +kernel

/-- A SECONDARY request of an episode with a last onset of its own, and of another. -/
theorem witness_DetectorEntryCarriesItsRequest :
    (1 : Nat) = (⟨1, ⟨3, 0⟩⟩ : LastOnset).episode ∧ (2 : Nat) ≠ (⟨1, ⟨3, 0⟩⟩ : LastOnset).episode := by decide

/-- A part whose ring is the worked one, with the requests and pending entries given. -/
def withRequests (rs : List DetRequest) (table : List Entry) : State :=
  { State.reset with
    ring := workedRing
    detV := { Detector.reset with requests := rs }
    onset := { OnsetUnit.reset with table := table } }

/-- A pending SIGNATURE entry of slot 3 with its onset at the worked onset. -/
def pendingSig : Entry := { newEntry .signature (.slot 3) none ⟨9, 90000⟩ ⟨8, 80000⟩ 0 0 100 true false with score := some 31 }

/-- A pending entry of Detector V's episode 1, measured in full or not. -/
def pendingDet (measured : Nat) : Entry :=
  { newEntry .primary (.detector .v) (some ⟨.v, 1⟩) ⟨9, 90000⟩ ⟨8, 80000⟩ 3977 7954 100 false false with measured := measured }

/-- PRIMARY and SECONDARY requests with nothing pending (15 entries of other kinds leave room), and with a SIGNATURE entry that
coincides. -/
theorem witness_CreateRequestMakesAnEntry :
    let rq : List DetRequest := [.createPrimary 1 ⟨9, 90000⟩ 3977 false]
    let s1 (table : List Entry) : State := withRequests [] table
    ((withRequests rq []).det .v).requests = rq ∧ (withRequests rq []).resetLow = false ∧
    (withRequests rq []).onset.lateCause ⟨9, 90000⟩ = none ∧ (withRequests rq []).onset.feed.signals = [] ∧ (List.replicate 15 (pendingDet 0)).length < 16 ∧
    ((withRequests [.createSecondary 1 ⟨9, 90000⟩ 3977 true] []).det .v).requests =
      [.createSecondary 1 ⟨9, 90000⟩ 3977 true] ∧
    ((s1 []).detectorEntry .v .primary 1 ⟨9, 90000⟩ 3977 false false).onset.time = 80000 ∧
    (s1 []).coincidentEntry PickKind.ofSignature 80000 = none ∧
    (s1 [pendingDet 0, pendingSig]).coincidentEntry PickKind.ofSignature 80000 = some 1 ∧
    ([pendingDet 0, pendingSig] : List Entry)[1]? = some pendingSig ∧ pendingSig.source = .slot 3 := by
  decide +kernel

/-- A request of slot 2 with its onset at `onset`. -/
def sigRequest (onset : Nat) : SigRequest := ⟨2, ⟨9, 90000⟩, ⟨onset, 10000 * onset⟩, 7, .p, false⟩

/-- A part with that request and the pending entries given. -/
def withSigRequest (onset : Nat) (table : List Entry) : State :=
  { withRequests [] table with bank := { SignatureBank.reset with requests := [sigRequest onset] } }

/-- A match that coincides with a pending entry by exactly the tolerance of ten periods less eight, and one with nothing pending. -/
theorem witness_SignatureRequestMergesOrMakesAnEntry :
    (withSigRequest 10 [pendingDet 5]).bank.requests = sigRequest 10 :: [] ∧ (withSigRequest 10 []).resetLow = false ∧
    (withSigRequest 10 []).onset.lateCause (sigRequest 10).trigger = none ∧ (withSigRequest 10 []).onset.feed.signals = [] ∧ (withSigRequest 10 []).onset.table.length < 16 ∧
    (withSigRequest 10 [pendingDet 5]).coincidentEntry PickKind.ofDetector (sigRequest 10).onset.time = some 0 ∧
    (withSigRequest 18 [pendingDet 5]).coincidentEntry PickKind.ofDetector (sigRequest 18).onset.time = some 0 ∧
    (withSigRequest 19 [pendingDet 5]).coincidentEntry PickKind.ofDetector (sigRequest 19).onset.time = none ∧
    (withSigRequest 10 []).coincidentEntry PickKind.ofDetector (sigRequest 10).onset.time = none := by
  decide +kernel

/-- The boundary just behind the trigger triple, after FLUSH and after GAP; a table of 16. -/
theorem witness_LateAndOverrunRequests :
    let o (c : Cause) : OnsetUnit := { OnsetUnit.reset with boundary := some ⟨10, c⟩ }
    (o .flush).lateCause ⟨9, 0⟩ = some .flush ∧ (o .gap).lateCause ⟨9, 0⟩ = some .gap ∧ (o .gap).lateCause ⟨10, 0⟩ = none ∧
    (∃ b, (o .gap).boundary = some b ∧ (9 : Nat) < b.count ∧ ¬10 < b.count ∧ b.cause = .gap) ∧
    (o .gap).lateCause ⟨9, 0⟩ ≠ some .flush ∧ 16 ≤ (List.replicate 16 (pendingDet 0)).length ∧ (o .gap).table.length < 16 ∧
    ((withRequests [.createPrimary 1 ⟨9, 90000⟩ 3977 false] []).det .v).requests = [.createPrimary 1 ⟨9, 90000⟩ 3977 false] ∧
    (withSigRequest 10 []).bank.requests = [sigRequest 10] ∧
    (∀ g, (withSigRequest 10 []).onset.feed.signals.head? = some g → (sigRequest 10).trigger.idx < g.after) ∧
    (∀ g, (feedAt 5 [⟨.gap, 10⟩]).signals.head? = some g → (9 : Nat) < g.after) ∧
    ((feedAt 5 [⟨.gap, 9⟩]).signals.head? = some ⟨.gap, 9⟩ ∧ (⟨.gap, 9⟩ : Signal).after ≤ (sigRequest 10).trigger.idx) := by
  refine ⟨rfl, rfl, rfl, ⟨⟨10, .gap⟩, rfl, by decide, by decide, rfl⟩, by decide, by decide, by decide, rfl, rfl,
    fun _ h => (by cases h), fun _ h => ?_, rfl, by decide⟩
  cases h
  decide

theorem witness_EpisodeRequestsReachItsEntries :
    ((withRequests [.confirm 1] [pendingDet 100, pendingDet 5]).det .v).requests = .confirm 1 :: [] ∧
    ((withRequests [.markLong 1] [pendingDet 100]).det .v).requests = .markLong 1 :: [] ∧
    ((withRequests [.cancel 1] [pendingDet 5]).det .v).requests = .cancel 1 :: [] ∧
    (withRequests [.cancel 1] [pendingDet 5]).resetLow = false := by
  decide +kernel

/-- The next triple of an entry with its onset at 8 and none measured is number 8. -/
theorem witness_OnsetTripleMeasuresItsEntries :
    let s : State := { withRequests [] [pendingDet 0] with
      onset := { OnsetUnit.reset with feed := feedAt 8 [], table := [pendingDet 0] } }
    s.resetLow = false ∧ s.onset.feed.tripleReady s.ring = true ∧ (pendingDet 0).onset.idx + (pendingDet 0).measured = 8 := by
  decide +kernel

/-- No peak yet, a smaller one and an equal one; the onset triple, a rising and an equal magnitude after it, and an extremum found. -/
theorem witness_MeasurementOfOneTriple :
    let t := triple 5 0 0 false 0
    t.energy .v = 25 ∧ (pendingDet 0).peak = none ∧ (24 : Nat) < t.energy .v ∧ t.energy .v ≤ 25 ∧ (pendingDet 0).measured = 0 ∧
    (pendingDet 1).measured ≠ 0 ∧ (pendingDet 1).work.extremum = none ∧ t.cond.z.natAbs ≤ (-5 : Int).natAbs ∧
    (4 : Int).natAbs < t.cond.z.natAbs ∧ ({ onsetSign := 1, previous := 5, extremum := some (5, 0) } : PolarityWork).extremum = some (5, 0) := by
  decide +kernel

/-- The grade thresholds met and just missed, and a peak held. -/
theorem witness_CompletionGradesAndLabels :
    let set := PhaseSettings.reset
    snrOf 6400 100 100 = 1024 ∧ set.g3 ≤ 1024 ∧ snrOf 6399 100 100 = 1023 ∧ (set.g2 ≤ 1023 ∧ 1023 < set.g3) ∧
    snrOf 1599 100 100 = 255 ∧ (set.g1 ≤ 255 ∧ 255 < set.g2) ∧ snrOf 399 100 100 = 63 ∧ 63 < set.g1 ∧
    ({ pendingDet 1 with peak := some ⟨25, 0, .z, 5⟩ } : Entry).peak = some ⟨25, 0, .z, 5⟩ := by
  decide +kernel

theorem witness_SignalSettlesThePendingTable :
    let s (c : Cause) : State := { withRequests [] [] with
      onset := { OnsetUnit.reset with feed := feedAt 12 [⟨c, 12⟩], table := [pendingDet 5, pendingSig], nextPick := 65533 } }
    (s .gap).onset.feed.signalReady = some .gap ∧ (s .flush).onset.feed.signalReady = some .flush ∧ (s .gap).resetLow = false ∧
    (s .gap).onset.nextPick + (s .gap).onset.table.length ≤ 65535 := by
  decide +kernel

/-! ### The Signature Bank -/

/-- A slot holding the worked signature, ACTIVE, with the dead time given. -/
def workedSlot (dead : Nat) : SigSlot :=
  { SigSlot.reset with
    state := .active, positions := workedPositions, gate := 500, m16 := 12, invert := true, length := 10, compareCount := 8, dead := dead }

/-- A part whose ring holds ten triples, with slot 5 as given and the Signature Bank at its last triple. -/
def withSlot5 (zs : List Int) (x : SigSlot) (gs : List Signal) : State :=
  { State.reset with
    ring := ringOf zs
    bank := ⟨feedAt (if gs = [] then 9 else 10) gs, SignatureBank.reset.slots.set 5 x, []⟩ }

/-- Ten values whose score is 6, ten whose score is 5, and ten whose score is -6 (a level of 12/16 of 8 is 6). -/
def scoring : Nat → List Int
  | 6 => [0, 900, 2400, -1800, -3100, 0, 2200, 0, 0, -900]
  | 5 => [0, 900, 2400, -1800, -3100, 0, 2200, 0, 0, 0]
  | _ => [0, -900, -2400, 1800, 3100, 0, -2200, 0, 0, 900]

/-- A hit at the level exactly, one under it, and a hit inverted; each way a position contributes; a walk that stops at the oldest triple, at
a DISC triple, and one of full length. -/
theorem witness_SlotMatchesAtItsLevel :
    let x := workedSlot 0
    let w (k : Nat) := (ringOf (scoring k)).walkBack x.length 9 []
    let score (k : Nat) := scoreOf x.gate x.positions (w k)
    ((w 6).length = x.length ∧ 0 < score 6 ∧ (x.compareCount * x.m16 : Nat) = 16 * score 6) ∧
    ¬((x.compareCount * x.m16 : Nat) ≤ 16 * score 5) ∧
    (x.invert = true ∧ score 0 < 0 ∧ (x.compareCount * x.m16 : Nat) = 16 * -score 0) ∧
    ((triple 500 0 0 false 0).filled = false ∧ (0 : Int) < 500 ∧ ((500 : Nat) : Int) ≤ 500) ∧
    ((-500 : Int) < 0 ∧ ((500 : Nat) : Int) ≤ - -500 ∧ ¬((500 : Nat) : Int) ≤ - -499) ∧
    (ringOf [1, 2, 3]).oldest ≤ 2 ∧ ((ringOf [1, 2, 3]).walkBack 3 2 []).length = 3 ∧
    ((ringOf [1, 2, 3]).walkBack 4 2 []).length = 3 := by
  decide +kernel

/-- An ACTIVE slot that matches, one that does not, one with dead time left, the others EMPTY; and each kind of signal. -/
theorem witness_SignatureBankTakesTriplesAndSignals :
    let s := withSlot5 (scoring 6) (workedSlot 0) []
    (s.resetLow = false ∧ s.bank.feed.tripleReady s.ring = true ∧ s.counters.signatureMatches ≤ 4294967295) ∧
    ((s.bank.slots.get 5).evaluate 5 s.ring 9 ≠ none) ∧ (workedSlot 0).evaluate 5 (ringOf (scoring 5)) 9 = none ∧
    (workedSlot 1).dead ≠ 0 ∧ (workedSlot 0).dead = 0 ∧ (workedSlot 0).state = .active ∧ (s.bank.slots.get 4).state ≠ .active ∧
    (withSlot5 (scoring 6) (workedSlot 3) [⟨.time, 10⟩]).bank.feed.signalReady = some .time ∧
    (withSlot5 (scoring 6) (workedSlot 3) [⟨.flush, 10⟩]).bank.feed.signalReady = some .flush := by
  decide +kernel

/-- Slots 7 and 8; an empty body; a start index of 254 with three pairs, one of them below -127 and one with mask code 2. -/
theorem witness_SigwWritesPairsIntoALoadingSlot :
    let body : List Byte := [7, 0, 254, 5, 0, 0x80, 1, 7, 2]
    (withMsg 0x18 body .complete).decodes (msg 0x18 body .complete) ∧ (withMsg 0x18 [8] .complete).decodes (msg 0x18 [8] .complete) ∧
    (withMsg 0x18 [] .broken).decodes (msg 0x18 [] .broken) ∧ (7 : Byte).toNat = (7 : Fin 8).val ∧ 7 < (8 : Byte).toNat ∧
    takeFields [1, 2] body = [7, 254] ∧ sigPairs (body.drop 3) = [(5, 0), (-128, 1), (7, 2)] ∧ 254 + 1 < 256 ∧
    (State.reset.bank.slots.get 7).positions.length = 256 ∧ (State.reset.bank.slots.get 7).writePtr ≤ 256 := by
  refine ⟨withMsg_decodes _ _ (by decide), withMsg_decodes _ _ (by decide), withMsg_decodes _ _ (by decide), ?_⟩
  decide +kernel

/-- Slot 8; an EMPTY slot; a LOADING one that is valid, of length 7, and without a COMPARE position; an ACTIVE one. -/
theorem witness_SigeAndSigdSwitchASlot :
    let body : List Byte := [5, 0, 1, 0xF4, 12, 9, 0, 1]
    let loading (ps : List Position) : SigSlot := { SigSlot.reset with state := .loading, positions := ps }
    let N (x : SigSlot) : Nat := (x.positions.takeWhile fun p => p.mask != .stop).length
    let Ncmp (x : SigSlot) : Nat := ((x.positions.takeWhile fun p => p.mask != .stop).filter fun p => p.mask == .compare).length
    (withMsg 0x19 body .complete).decodes (msg 0x19 body .complete) ∧ (withMsg 0x1A [5] .complete).decodes (msg 0x1A [5] .complete) ∧
    8 ≤ body.length ∧ (5 : Byte).toNat = (5 : Fin 8).val ∧ 7 < (8 : Byte).toNat ∧ SigSlot.reset.state = .empty ∧
    (8 ≤ N (loading workedPositions) ∧ 1 ≤ Ncmp (loading workedPositions)) ∧
    N (loading (List.replicate 7 ⟨1, .compare⟩ ++ [⟨0, .stop⟩])) < 8 ∧ N (loading (List.replicate 8 ⟨1, .compare⟩)) = 8 ∧
    Ncmp (loading (List.replicate 8 ⟨1, .ignore⟩)) < 1 ∧ (workedSlot 3).state = .active := by
  refine ⟨withMsg_decodes _ _ (by decide), withMsg_decodes _ _ (by decide), ?_⟩
  decide +kernel

/-! ### The Association Unit -/

/-- A pick of a phase with its onset at a time. -/
def pickAt (phase : Phase) (t : Nat) : Pick := { samplePick .primary (.detector .v) phase 3 false with onset := ⟨0, t⟩ }

/-- A part with a pick to place and the events given. -/
def placing (p : Pick) (evs : List Event) (fence : Option Fence) : State :=
  { State.reset with assoc := { AssociationUnit.reset with picks := [p], events := evs, fence := fence } }

/-- Events with a P, with an S, of one pick each. -/
def eventP (number t : Nat) : Event := ⟨number, t, some ⟨1, t⟩, none, 1, t, false, false⟩

def eventS (number t : Nat) : Event := ⟨number, t, none, some ⟨1, t⟩, 1, t, true, false⟩

/-- A duplicate at the tolerance of 100000 exactly and none beyond it; an adoption and an S joined at the S-P limits of 500000 and 30000000; an
X at the end of its join window; each opening; and a stale pick of each cause. -/
theorem witness_PickIsPlacedByItsPhase :
    let t := 50000000
    let s (phase : Phase) (ev : Event) := placing (pickAt phase t) [ev] none
    ((s .p (eventP 4 t)).resetLow = false ∧ (s .p (eventP 4 t)).assoc.picks = [pickAt .p t] ∧ (pickAt .p t).phase = .p ∧
      isStale none (pickAt .p t) = false) ∧
    ((s .p (eventP 4 (t + 100000))).duplicateOf t = some 0 ∧ (s .p (eventP 4 (t + 100001))).duplicateOf t = none) ∧
    ((s .p (eventS 4 (t + 500000))).duplicateOf t = none ∧ (s .p (eventS 4 (t + 500000))).adopter t = some 0 ∧
      (s .p (eventS 4 (t + 30000000))).adopter t = some 0 ∧ (s .p (eventS 4 (t + 30000001))).adopter t = none ∧
      (s .p (eventS 4 (t + 499999))).adopter t = none) ∧
    ((s .p (eventS 4 (t + 499999))).assoc.events.length < 8 ∧ State.reset.assoc.settings.openReport = false) ∧
    ((s .s (eventP 4 (t - 500000))).sJoin t = some 0 ∧ (s .s (eventP 4 (t - 30000000))).sJoin t = some 0 ∧
      (s .s (eventP 4 (t - 499999))).sJoin t = none) ∧
    ((s .x (eventP 4 (t - 20000000))).xJoin t = some 0 ∧ (s .x (eventP 4 (t - 20000001))).xJoin t = none) ∧
    (let gapped (c : Cause) : Pick := { pickAt .p t with gapCause := some c }
     (placing (gapped .time) [] (some .time)).assoc.fence = some .time ∧ (gapped .time).gapCause = some .time ∧
      (placing (gapped .gap) [] (some .gapStop)).assoc.fence = some .gapStop ∧ (gapped .gap).gapCause = some .gap ∧
      (gapped .stop).gapCause = some .stop) := by
  decide +kernel

/-- Eight open events, the third and the fifth with the earliest first onset, for a P pick and for an S pick that joins none; and a table
with room. -/
theorem witness_FullTableForcesTheOldestEventOut :
    let evs : List Event := [7, 8, 5, 9, 5, 6, 7, 8].map fun k => eventP k (k * 1000000)
    let s := placing (pickAt .p 50000000) evs none
    (s.resetLow = false ∧ s.assoc.picks = [pickAt .p 50000000] ∧ (pickAt .p 50000000).phase = .p ∧
      isStale s.assoc.fence (pickAt .p 50000000) = false) ∧
    s.duplicateOf 50000000 = none ∧ s.adopter 50000000 = none ∧ s.assoc.events.length = 8 ∧
    s.assoc.events[2]? = some (eventP 5 5000000) ∧
    (∀ j w, s.assoc.events[j]? = some w → (eventP 5 5000000).first ≤ w.first ∧ (j < 2 → (eventP 5 5000000).first < w.first)) ∧
    (∀ l ∈ [evs, []], let u := placing (pickAt .s 4000000) l none
      u.resetLow = false ∧ u.assoc.picks = [pickAt .s 4000000] ∧ (pickAt .s 4000000).phase = .s ∧
        isStale u.assoc.fence (pickAt .s 4000000) = false ∧ u.sJoin 4000000 = none) ∧
    (placing (pickAt .s 4000000) evs none).assoc.events.length = 8 ∧ (placing (pickAt .s 4000000) [] none).assoc.events.length < 8 := by
  refine ⟨by decide +kernel, by decide +kernel, by decide +kernel, rfl, rfl, ?_, by decide +kernel, by decide +kernel⟩
  intro j w h
  match j, h with
  | 0, h | 1, h | 2, h | 3, h | 4, h | 5, h | 6, h | 7, h => cases h; decide
  | n + 8, h => simp [placing] at h

/-- Each signal at the Association Unit, with a gap note held and without. -/
theorem witness_AssociationSignals :
    let s (c : Cause) (note : Option (Option Nat)) : State :=
      { State.reset with assoc := { AssociationUnit.reset with feed := feedAt 0 [⟨c, 0⟩], gapNote := note, events := [eventP 4 9] } }
    (∀ c note, (s c note).assoc.feed.signalReady = some c ∧ (s c note).resetLow = false ∧
      (s c note).assoc.settings.queue = some 0) ∧
    (s .gap none).assoc.gapNote = none ∧ (s .stop (some none)).assoc.gapNote ≠ none :=
  ⟨fun c _ => ⟨by cases c <;> rfl, rfl, rfl⟩, rfl, by decide⟩

/-- A triple at the time of a gap note and one past it; an event whose deadline is earlier than the triple by 1 and one whose deadline is its
time; a report with both members half a sample apart from a whole number. -/
theorem witness_AssociationTripleClosesEvents :
    let s (note : Option (Option Nat)) : State :=
      { State.reset with
        ring := ⟨1, [triple 0 0 0 true 60000000]⟩
        assoc := { AssociationUnit.reset with feed := feedAt 0 [], gapNote := note, events := [eventP 4 19999999, eventP 5 20000000] } }
    (∀ note, (s note).resetLow = false ∧ (s note).assoc.feed.tripleReady (s note).ring = true ∧
      (s note).assoc.settings.queue = some 0 ∧ ((s note).ring.read (s note).assoc.feed.taken).time = 60000000) ∧
    ((s (some (some 60000000))).assoc.gapNote = some (some 60000000) ∧ (60000000 : Nat) ≤ 60000000) ∧ (59999999 : Nat) < 60000000 ∧
    (∀ n, (s none).assoc.gapNote = some (some n) → n < 60000000) ∧
    (19999999 + 4000 * State.reset.period < 60000000 ∧ ¬20000000 + 4000 * State.reset.period < 60000000) ∧
    0 < State.reset.period ∧ spSamples 10000 (some ⟨1, 0⟩) (some ⟨2, 5000⟩) = some 1 :=
  ⟨fun _ => ⟨rfl, rfl, rfl, rfl⟩, ⟨rfl, by decide⟩, by decide, fun _ h => (by cases h), by decide, by decide, by decide⟩

/-! ### Settings and refusals -/

/-- A body that ends one byte before and exactly at its last field; each settings message. -/
theorem witness_SettingsAreReadStoredAndChecked :
    (∀ code : Byte, ∀ body, (withMsg code body .complete).decodes (msg code body .complete)) ∧
    (([2, 1, 1] : List Nat).take 2).sum ≤ ([1, 2, 3] : List Byte).length ∧
    ([1, 2, 3] : List Byte).length < (([2, 1, 1] : List Nat).take 3).sum ∧ ([2, 1, 1] : List Nat)[2]? = some 1 ∧
    takeFields [2, 1, 1] [1, 2, 3] = [258, 3] ∧ ([2, 1, 1] : List Nat).length ≤ 3 :=
  ⟨fun _ _ => withMsg_decodes _ _ (by decide), by decide, by decide, rfl, by decide, by decide⟩

/-- An unknown code, broken; GRNT with one byte of its two; SIGE cut short; a full reply queue, an FLSH being decoded, and an empty buffer. -/
theorem witness_UnfitMessagesAreRefused :
    (withMsg 0x05 [] .broken).decodes (msg 0x05 [] .broken) ∧
    (0x05 : Byte) ∉ ([0x01, 0x02, 0x03, 0x04, 0x08, 0x09, 0x0A, 0x0C, 0x0D, 0x0E, 0x0F, 0x10, 0x11, 0x12, 0x13, 0x14, 0x18, 0x19, 0x1A]
      : List Byte) ∧
    (withMsg 0x12 [1] .complete).decodes (msg 0x12 [1] .complete) ∧ ([1] : List Byte).length < 2 ∧
    (withMsg 0x19 [0, 0, 0] .broken).decodes (msg 0x19 [0, 0, 0] .broken) ∧
    8 ≤ ({ LinkPort.reset with replies := List.replicate 8 (.ackn 0 false false 0) } : LinkPort).replies.length ∧
    (∀ m, State.reset.link.inbox.head? = some m → m.status = .inProgress ∨ m.code ≠ 0x09) ∧
    (∀ m, (withMsg 0x09 [] .complete).link.inbox.head? = some m → m.code ∈ ([0x08, 0x09] : List Byte)) := by
  refine ⟨withMsg_decodes _ _ (by decide), by decide, withMsg_decodes _ _ (by decide), by decide, withMsg_decodes _ _ (by decide),
    by decide, fun _ h => (by cases h), fun m h => ?_⟩
  cases h
  decide

/-! ### Routing and the report queues -/

/-- Snippet slots that are all FILLING. -/
def noFree : SnippetStore := { SnippetStore.reset with slots := .all { SnipSlot.reset with state := .filling } }

/-- A P pick behind one report, of class 48, its entry DISCARD, plain, with a snippet item and a slot FREE or none; a routed pick that waits;
ROUT from 63 with two entries and from 64. -/
theorem witness_RoutingFollowsTheRouteTable :
    let p := samplePick .primary (.detector .v) .p 3 false
    let before : List Handed := [.report 1 ⟨1, none, 0, 1, false, false, none, none, none⟩]
    let s (e : RouteEntry) : State := { State.reset with outbox := before ++ [.toRoute p 4 .p], routes := List.replicate 64 e }
    (∀ x ∈ before, ∃ q r, x = Handed.report q r) ∧
    (∀ e, (s e).resetLow = false ∧ (s e).outbox = before ++ .toRoute p 4 .p :: [] ∧ (s e).routes[48]? = some e) ∧
    (16 * p.grade + 4 * (if p.kind = .secondary then 3 else match p.phase with | .p => 0 | .s => 1 | .x => 2) +
      2 * (if p.kind = .signature then 1 else 0) + (if p.clipped = true then 1 else 0) = 48) ∧
    (∃ n, (State.reset.snips.slots.get n).state = .free) ∧ (∀ n, (noFree.slots.get n).state ≠ .free) ∧
    (withMsg 0x10 [63, 1, 2] .complete).decodes (msg 0x10 [63, 1, 2] .complete) ∧ State.reset.routes.length = 64 ∧
    (63 + 0 < 64 ∧ 64 < (63 : Byte).toNat + ([1, 2] : List Byte).length) := by
  refine ⟨?_, fun e => ⟨rfl, rfl, rfl⟩, by decide, ⟨0, rfl⟩, by decide, withMsg_decodes _ _ (by decide), by decide, by decide⟩
  intro x hx
  exact ⟨1, _, List.mem_singleton.mp hx⟩

/-- An event report, as a record. -/
def someEvnt : EventReport := ⟨1, none, 0, 1, false, false, none, none, none⟩

/-- A queue of `n` event records and a part with queue 2 as given and one arrival. -/
def evnts (n : Nat) : Queue :=
  { Queue.reset with records := List.replicate n (.evnt someEvnt), timer := if n = 0 then .stopped else .running 0, hold := 9 }

def arrivalAt (h : Handed) (n2 n3 : Nat) : State :=
  { State.reset with outbox := [h], queues := (State.reset.queues.set 2 (evnts n2)).set 3 (evnts n3) }

theorem reset_sound : Queue.reset.sound :=
  ⟨by decide, fun _ h => HoldTimer.noConfusion h, by decide, fun _ => rfl, fun h => Bool.noConfusion h, by decide, rfl⟩

theorem evnts_sound (n : Nat) : (evnts n).sound := by
  refine ⟨Nat.zero_le _, ?_, ?_, fun _ => rfl, fun h => Bool.noConfusion h, ?_, rfl⟩
  · intro k h
    cases n <;> simp [evnts] at h
    omega
  · cases n <;> simp [evnts, List.replicate_succ]
  · intro r hr
    have h : r ∈ List.replicate n (Record.evnt someEvnt) := List.mem_of_mem_tail hr
    rw [List.eq_of_mem_replicate h]
    rfl

theorem arrivalAt_sound (h : Handed) (n2 n3 : Nat) (j : Fin 4) : ((arrivalAt h n2 n3).queues.get j).sound := by
  match j with
  | 0 => exact reset_sound
  | 1 => exact reset_sound
  | 2 => exact evnts_sound n2
  | 3 => exact evnts_sound n3

/-- The last free record and two, none and one; an arrival at queue 3, which pushes nothing out; slot 0 FREE, and no slot FREE. -/
theorem witness_ArrivalIsAdmittedOrLost :
    let plain (q : Fin 4) : Handed := .routed q ⟨samplePick .primary (.detector .v) .p 3 false, 0, .none, .none⟩
    let snip (q : Fin 4) : Handed := .routed q ⟨samplePick .primary (.detector .v) .p 3 false, 0, .none, .snippet⟩
    let held (s : State) : Nat := (s.queues.get 0).records.length + (s.queues.get 1).records.length + (s.queues.get 2).records.length +
      (s.queues.get 3).records.length
    ((arrivalAt (.report 1 someEvnt) 0 95).outbox = .report 1 someEvnt :: [] ∧ held (arrivalAt (.report 1 someEvnt) 0 95) + 1 ≤ 96) ∧
    96 < held (arrivalAt (plain 3) 0 96) + 1 ∧ held (arrivalAt (snip 3) 0 94) + 2 ≤ 96 ∧ 96 < held (arrivalAt (snip 3) 0 95) + 2 ∧
    (∀ j, ((arrivalAt (snip 3) 0 95).queues.get j).sound) ∧
    (State.reset.snips.slots.get 0).state = .free ∧ (∀ k : Fin 8, k < 0 → (State.reset.snips.slots.get k).state ≠ .free) ∧
    (arrivalAt (snip 3) 0 94).snips.feed.signals = [] ∧ (∀ n, (noFree.slots.get n).state ≠ .free) ∧
    (∀ q rest, (∀ r, State.reset.outbox ≠ .report q r :: rest) ∧ ∀ r, State.reset.outbox ≠ .routed q r :: rest) ∧
    State.reset.resetLow = false := by
  refine ⟨by decide +kernel, by decide +kernel, by decide +kernel, by decide +kernel, arrivalAt_sound _ 0 95, rfl, by decide, rfl, by decide,
    fun _ _ => ⟨fun _ h => (by cases h), fun _ h => (by cases h)⟩, rfl⟩

/-- A full pool of which one record of queue 3 leaves for an arrival at queue 2, and two where a PICK takes its item along; a lack that is
just met, and one that is one too large; a pick with its item for which a slot is FREE. -/
theorem witness_EvictionTakesTheOldestOfTheLowestQueue :
    let p : PickReport := ⟨samplePick .primary (.detector .v) .p 3 false, 0, .none, .snippet⟩
    let s := arrivalAt (.report 2 someEvnt) 95 1
    (∀ r ∈ ([.item 1 3, .pick p, .item 2 0] : List Record).tail, r.unsent = true) ∧
    evictFrom 1 [.item 1 3, .pick p, .item 2 0] = ([.item 1 3], [.pick p, .item 2 0]) ∧
    (∀ j, (s.queues.get j).sound) ∧ (∃ u, s.makeRoom 2 1 = some u) ∧ s.resetLow = false ∧ s.outbox = .report 2 someEvnt :: [] ∧
    (s.poolHeld = 96 ∧ (s.queues.get 3).records.countP Record.unsent = 1 ∧ 96 + 1 - 96 ≤ 1 ∧ 1 < 96 + 2 - 96) ∧
    (let u := arrivalAt (.routed 2 p) 94 2
     (∀ j, (u.queues.get j).sound) ∧ u.outbox = .routed 2 p :: [] ∧ p.mark = .snippet ∧
      (∃ k, (u.snips.slots.get k).state = .free) ∧ u.poolHeld + 2 - 96 ≤ (u.queues.get 3).records.countP Record.unsent) := by
  refine ⟨by decide, by decide, arrivalAt_sound _ 95 1, ?_, rfl, rfl, by decide +kernel, arrivalAt_sound _ 94 2, rfl, rfl, ⟨0, rfl⟩,
    by decide +kernel⟩
  exact Option.isSome_iff_exists.mp (by decide +kernel)

/-- Queue 3 with its timer at the new hold time exactly, just below it, and a hold time of 0; queue 4; no queue number. -/
theorem witness_QsetAppliesToItsQueue :
    let body : List Byte := [3, 0, 0x27, 0x11]
    (withMsg 0x11 body .complete).decodes (msg 0x11 body .complete) ∧ (withMsg 0x11 [4] .complete).decodes (msg 0x11 [4] .complete) ∧
    (withMsg 0x11 [] .broken).decodes (msg 0x11 [] .broken) ∧ takeFields [1, 1, 2] body = [3, 0, 10001] ∧
    takeFields [1, 1, 2] ([4] : List Byte) = [4] ∧ takeFields [1, 1, 2] ([] : List Byte) = [] ∧
    (∃ n, HoldTimer.running 10000 = .running n ∧ min 10000 10001 ≠ 0 ∧ min 10000 10001 ≤ n) ∧
    (∀ n, HoldTimer.running 9999 = .running n → min 10000 10001 = 0 ∨ n < min 10000 10001) := by
  refine ⟨withMsg_decodes _ _ (by decide), withMsg_decodes _ _ (by decide), withMsg_decodes _ _ (by decide), by decide, by decide,
    by decide, ⟨10000, rfl, by decide, by decide⟩, ?_⟩
  rintro n h
  cases h
  exact .inr (by decide)

theorem witness_GrantRaisesCreditsAndQrstEmpties :
    (withMsg 0x12 [3, 0] .complete).decodes (msg 0x12 [3, 0] .complete) ∧ (withMsg 0x12 [3] .complete).decodes (msg 0x12 [3] .complete) ∧
    (withMsg 0x12 [3, 0] .broken).decodes (msg 0x12 [3, 0] .broken) ∧ (withMsg 0x13 [4] .complete).decodes (msg 0x13 [4] .complete) ∧
    (withMsg 0x13 [] .complete).decodes (msg 0x13 [] .complete) ∧ (withMsg 0x13 [3] .complete).decodes (msg 0x13 [3] .complete) ∧
    3 < (4 : Byte).toNat ∧ (3 : Byte).toNat = (3 : Fin 4).val ∧ (∃ k, Record.item 2 k ∈ ([.item 2 1] : List Record)) ∧
    (∀ k, Record.item 3 k ∉ ([.item 2 1] : List Record)) := by
  refine ⟨withMsg_decodes _ _ (by decide), withMsg_decodes _ _ (by decide), withMsg_decodes _ _ (by decide),
    withMsg_decodes _ _ (by decide), withMsg_decodes _ _ (by decide), withMsg_decodes _ _ (by decide), by decide, by decide,
    ⟨1, by decide⟩, ?_⟩
  intro k h
  cases List.mem_singleton.mp h

/-- A timer one short of its hold time and two short; an expiry to take in a queue with a record and no credit, and a GRNT to it. -/
theorem witness_HoldTimersRunInLocalTime :
    let q : Queue := { evnts 1 with timer := .expired, expiry := true, batch := 2 }
    let s : State := { withMsg 0x12 [2, 1] .complete with queues := State.reset.queues.set 2 q }
    ((evnts 1).hold ≠ 0 ∧ (evnts 1).hold ≤ min 10000 (8 + 1) ∧ min 10000 (7 + 1) < (evnts 1).hold) ∧
    s.decodes (msg 0x12 [2, 1] .complete) ∧ (msg 0x12 [2, 1] .complete).status = .complete ∧
    (msg 0x12 [2, 1] .complete).body = [BitVec.ofNat 8 (2 : Fin 4).val, 1] ∧ (s.queues.get 2).expiry = true ∧
    (s.queues.get 2).records ≠ [] ∧ (s.queues.get 2).credits = 0 ∧ (s.queues.get 2).ready = false ∧
    (s.queues.get 2).starved = false ∧ s.resetLow = false ∧ (s.queues.get 1).expiry = false := by
  refine ⟨by decide, ⟨rfl, rfl, rfl, by decide, by decide⟩, rfl, rfl, rfl, by decide, rfl, rfl, rfl, rfl, rfl⟩

/-! ### The Snippet Store -/

/-- A pick in the worked ring with no boundary, with one just behind its onset, and with one at it. -/
theorem witness_SlotIsCapturedFromTheRing :
    let p : Pick := { samplePick .primary (.detector .v) .p 3 false with onset := ⟨8, 80000⟩ }
    workedRing.oldest ≤ p.onset.idx ∧ 1 ≤ SnippetStore.reset.settings.post ∧
    (∃ b, ({ SnippetStore.reset with boundary := some 9 } : SnippetStore).boundary = some b ∧ p.onset.idx < b) ∧
    ¬(∃ b, ({ SnippetStore.reset with boundary := some 8 } : SnippetStore).boundary = some b ∧ p.onset.idx < b) := by
  refine ⟨by decide +kernel, by decide, ⟨9, rfl, by decide⟩, ?_⟩
  rintro ⟨b, h, hb⟩
  cases h
  exact absurd hb (by decide)

/-- A slot whose next triple is the one taken, one triple short of its length and two; a DISC triple; and a signal. -/
theorem witness_SnippetStoreCopiesAndCuts :
    let slot (n : Nat) : SnipSlot :=
      { SnipSlot.reset with state := .filling, pre := 0, post := 3, size := 16, onset := ⟨3, 30000⟩, triples := List.replicate n ⟨⟨0, 0, 0⟩, 0⟩ }
    let s (f : Feed) (x : SnipSlot) : State :=
      { State.reset with ring := workedRing, snips := { SnippetStore.reset with feed := f, slots := SnippetStore.reset.slots.set 6 x } }
    (∀ f x, (s f x).resetLow = false ∧ (s f x).counters.snippetCut ≤ 4294967295) ∧
    (s (feedAt 5 []) (slot 2)).snips.feed.tripleReady (s (feedAt 5 []) (slot 2)).ring = true ∧
    ((slot 2).state != .free && !(slot 2).complete) = true ∧
    ((slot 2).onset.idx - (slot 2).preCount + (slot 2).triples.length == 5) = true ∧
    (slot 2).triples.length + 1 = (slot 2).preCount + (slot 2).post ∧ (slot 1).triples.length + 1 ≠ (slot 1).preCount + (slot 1).post ∧
    (workedRing.read 5).disc = false ∧ (workedRing.read 0).disc = true ∧
    (s (feedAt 12 [⟨.stop, 12⟩]) (slot 2)).snips.feed.signalReady = some .stop :=
  ⟨fun _ _ => ⟨rfl, Nat.zero_le _⟩, by decide +kernel, by decide, by decide, by decide, by decide, by decide +kernel, by decide +kernel, by decide⟩

/-! ### The link -/

/-- Inbound messages in progress: none, one at its length, one at its last byte; a fill of 255 and of 256. -/
theorem witness_LinkCharacterBuildsMessages :
    let m (len : Option Nat) (n : Nat) : InMsg := ⟨0x18, len, List.replicate n 0, .inProgress⟩
    let l (ms : List InMsg) : LinkPort := { LinkPort.reset with redy := none, watch := .looking, inbox := ms }
    (∀ len n, (l [m len n]).inbox = [] ++ [m len n] ∧ (m len n).status = .inProgress ∧ (l [m len n]).watch = .looking) ∧
    (∀ x, (l []).inbox.getLast? = some x → x.status ≠ .inProgress) ∧ (m none 0).length = none ∧ (m (some 3) 2).length = some 3 ∧
    (l [msg 0x18 (List.replicate 250 0) .complete, m (some 3) 1]).fill = 255 ∧
    (l [msg 0x18 (List.replicate 250 0) .complete, m (some 3) 2]).fill = 256 ∧ LinkPort.reset.watch ≠ .looking ∧
    (0x18 : Byte) ≠ 0xFE ∧ (0x18 : Byte) ≠ 0xFF :=
  ⟨fun _ _ => ⟨rfl, rfl, rfl⟩, fun _ h => (by cases h), rfl, rfl, by decide +kernel, by decide +kernel, by decide, by decide, by decide⟩

/-- A fill of 191 and 192, of 64 and 65; each state of the line; a flow character waiting with the line free and with a character being
sent. -/
theorem witness_LineEventsAndFlowControl :
    let l (n : Nat) (own : Bool) (f : Option Flow) (w : LineWatch) (c : Option LinkChar) : LinkPort :=
      { LinkPort.reset with watch := w, inbox := [msg 0x18 (List.replicate n 0) .complete], ownHold := own, flow := f, current := c }
    ((l 190 false none .looking none).fill = 192 ∧ (l 189 false none .looking none).fill < 192) ∧
    ((l 62 true none .looking none).fill = 64 ∧ 64 < (l 63 true none .looking none).fill) ∧
    (∀ n own f w c, (l n own f w c).watch = w ∧ (l n own f w c).flow = f ∧ (l n own f w c).current = c ∧
      (l n own f w c).ownHold = own) ∧
    State.reset.resetLow = false :=
  ⟨by decide +kernel, by decide +kernel, fun _ _ _ _ _ => ⟨rfl, rfl, rfl, rfl⟩, rfl⟩

/-- An FLSH being decoded with no reader left, and with one; FLSH, STAT and CNTR, with the clear flag and without. -/
theorem witness_FlshStatAndCntrOverTheWholePart :
    let s : State := { State.reset with flushing := true }
    (s.flushing = true ∧ ∀ f ∈ s.feeds, ∀ g ∈ f.signals, g.cause ≠ .flush) ∧
    (∃ f ∈ (s.raiseSignal .flush).feeds, ∃ g ∈ f.signals, g.cause = .flush) ∧
    (withMsg 0x02 [] .complete).decodes (msg 0x02 [] .complete) ∧ (withMsg 0x03 [] .complete).decodes (msg 0x03 [] .complete) ∧
    (withMsg 0x04 [1] .complete).decodes (msg 0x04 [1] .complete) ∧ (withMsg 0x04 [0] .complete).decodes (msg 0x04 [0] .complete) ∧
    State.reset.detV.due = none ∧ State.reset.detH.due = none :=
  ⟨by decide, by decide, withMsg_decodes _ _ (by decide), withMsg_decodes _ _ (by decide), withMsg_decodes _ _ (by decide),
    withMsg_decodes _ _ (by decide), rfl, rfl⟩

/-- The line busy and free; REDY, each reply and a notice waiting; a notice pending and one that is not. -/
theorem witness_ArbiterSendsNoticesAndRepliesFirst :
    let l (redy : Option ResetCause) (rs : List Reply) (ns : List PendingNotice) : LinkPort :=
      { LinkPort.reset with redy := redy, replies := rs, notices := ns }
    (∀ redy rs ns, (l redy rs ns).current = none ∧ (l redy rs ns).rest = [] ∧ (l redy rs ns).flow = none ∧
      (l redy rs ns).peerHold = false ∧ (l redy rs ns).redy = redy ∧ (l redy rs ns).replies = rs ∧ (l redy rs ns).notices = ns) ∧
    ({ LinkPort.reset with peerHold := true } : LinkPort).peerHold ≠ false ∧
    (∀ p ∈ ([⟨.inputLost, 1⟩] : List PendingNotice), p.notice ≠ .inputFound) ∧
    (∃ p ∈ ([⟨.inputLost, 1⟩] : List PendingNotice), p.notice = .inputLost) ∧ State.reset.resetLow = false :=
  ⟨fun _ _ _ => ⟨rfl, rfl, rfl, rfl, rfl, rfl, rfl⟩, by decide, by decide, ⟨⟨.inputLost, 1⟩, by decide, rfl⟩, rfl⟩

/-- A whole snippet of one segment. -/
def oneSegment : SnipSlot :=
  { SnipSlot.reset with state := .ready, size := 16, length := 16, complete := true, triples := List.replicate 16 ⟨⟨0, 0, 0⟩, 0⟩ }

/-- Queue 2 ready with a credit and one record, and slot 6 holding a whole snippet. -/
def offering (r : Record) : State :=
  let q : Queue := { Queue.reset with records := [r], credits := 1, ready := true, timer := .running 0 }
  { State.reset with
    link := { LinkPort.reset with redy := none }
    queues := State.reset.queues.set 2 q
    snips := { SnippetStore.reset with slots := SnippetStore.reset.slots.set 6 oneSegment } }

/-- A report, a pick and a snippet item whose last segment is available are offered; and no queue offers after reset. -/
theorem witness_ArbiterServesTheLowestOfferingQueue :
    (∀ r, (offering r).resetLow = false ∧ (offering r).link.current = none ∧ (offering r).link.rest = [] ∧
      (offering r).link.flow = none ∧ (offering r).link.peerHold = false ∧ (offering r).link.redy = none ∧
      (offering r).link.replies = [] ∧ (offering r).link.notices = [] ∧ ((offering r).queues.get 2).records = r :: []) ∧
    (let r : Record := .evnt someEvnt
     (∀ j, j < 2 → (offering r).offered j = none) ∧ (offering r).offered 2 = some r) ∧
    (let r : Record := .pick ⟨samplePick .primary (.detector .v) .p 3 false, 0, .none, .none⟩
     (offering r).offered 2 = some r) ∧
    ((offering (.item 6 0)).offered 2 = some (.item 6 0) ∧ ((offering (.item 6 0)).snips.slots.get 6).isLast 0 = true) ∧
    ({ SnipSlot.reset with size := 16 } : SnipSlot).isLast 0 = false ∧
    (∀ i, State.reset.offered i = none) :=
  ⟨fun _ => ⟨rfl, rfl, rfl, rfl, rfl, rfl, rfl, rfl, rfl⟩, by decide +kernel, by decide +kernel, by decide +kernel, by decide,
    by decide +kernel⟩

/-- Numbers at the top of their fields, counts at both ends, a pick with each optional part, a report with both members, a counter in its
place, a slot of two segments, and one whose closing segment is empty. -/
theorem witness_MessageBodiesHaveTheirLayout :
    let p : Pick := { samplePick .primary (.detector .v) .p 3 false with
      confirmedBy := some 7, coincident := some 65535, score := some (-256) }
    let r : EventReport := { eventP 4 9 with s := some ⟨2, 500009⟩ }.closeReport 10000 .quiet
    let cut : SnipSlot := { oneSegment with cut := true }
    (65535 : Nat) < 256 ^ 2 ∧ isCount (-8388608) ∧ isCount 8388607 ∧
    (p.confirmedBy = some 7 ∧ p.coincident = some 65535 ∧ p.score = some (-256) ∧ (-32768 : Int) ≤ -256 ∧ (-256 : Int) ≤ 32767) ∧
    (r.p = some ⟨1, 9⟩ ∧ r.s = some ⟨2, 500009⟩ ∧ r.sp = some 50) ∧
    (oneSegment.segment 0).head? = some ⟨⟨0, 0, 0⟩, 0⟩ ∧ (oneSegment.segment 0)[15]? = some ⟨⟨0, 0, 0⟩, 0⟩ ∧
    (cut.segment 1 = [] ∧ cut.triples.getLast? = some ⟨⟨0, 0, 0⟩, 0⟩) := by
  refine ⟨by decide, ⟨by decide, by decide⟩, ⟨by decide, by decide⟩, by decide +kernel⟩

/-! ### What every step keeps: from reset (which meets every invariant: the statement ResetMeetsTheInvariants) the part idles -/

/-- The state after reset with one command waiting. -/
def resetWith (c : Instr) : State := { State.reset with pending := [c] }

/-- RUN with no message to decode changes nothing but the queue. -/
theorem step_resetWith_run : step (resetWith .run) = .next State.reset := rfl

theorem witness_StepsKeepTheStoresBounded :
    (resetWith .run).poolBounded ∧ (resetWith .run).tablesBounded ∧ (resetWith .run).repliesBounded ∧ (resetWith .run).inboxBounded ∧
      step (resetWith .run) = .next State.reset := by
  refine ⟨?_, ⟨?_, ?_, ?_, ?_⟩, ?_, ?_, rfl⟩ <;> first | exact Nat.zero_le _ | rfl

theorem witness_StepsKeepTheRingAndItsReaders :
    (resetWith .run).ringFull ∧ (resetWith .run).readersInRing ∧ (resetWith .run).signalsInOrder ∧ (resetWith .run).flushHeld ∧
    step (resetWith .run) = .next State.reset ∧
    (let f := feedAt 3 [⟨.gap, 3⟩, ⟨.flush, 5⟩]
     f.tripleReady (ringOf [1, 2, 3, 4]) = false ∧ f.signalReady = some .gap ∧ (feedAt 2 [⟨.gap, 3⟩]).signalReady = none ∧
      (feedAt 2 [⟨.flush, 3⟩]).signalReady = some .flush ∧ (feedAt 2 [⟨.gap, 3⟩]).tripleReady (ringOf [1, 2, 3, 4]) = true) ∧
    (∀ d, (State.reset.det d).feed.tripleReady State.reset.ring = false ∧ (State.reset.det d).feed.signalReady = none ∧
      (State.reset.det d).feed.signalReady ≠ some .flush) := by
  refine ⟨rfl, (by decide : ∀ f ∈ State.reset.feeds, f.taken ≤ 0 ∧ 0 ≤ f.taken + 4096),
    (by decide : ∀ f ∈ State.reset.feeds, (f.signals.map Signal.after).Pairwise (· ≤ ·) ∧ ∀ g ∈ f.signals, f.taken ≤ g.after ∧ g.after ≤ 0),
    fun h => Bool.noConfusion h, rfl, by decide, ?_⟩
  rintro (_ | _) <;> exact ⟨rfl, rfl, by decide⟩

theorem witness_StepsKeepLevelsInRange : (resetWith .run).levelsBounded ∧ step (resetWith .run) = .next State.reset := by
  refine ⟨⟨fun t h => ?_, ?_, ?_⟩, rfl⟩
  · cases h
  all_goals simp only [Detector.levelsBounded]; decide

theorem witness_StepsKeepNumbersCountersAndSettings :
    (resetWith .run).numbersLegal ∧ (resetWith .run).counters.bounded ∧ (resetWith .run).settingsInRange ∧
      step (resetWith .run) = .next State.reset := by
  refine ⟨?_, ?_, ⟨?_, ?_, ?_, ?_, ?_, ?_, ?_, ?_⟩, rfl⟩ <;>
    first
    | decide
    | (simp only [State.numbersLegal, Counters.bounded, DetSettings.inRange]; decide)

theorem witness_StepsKeepDetectorsQueuesAndSlotsSound :
    step (resetWith .run) = .next State.reset ∧ (resetWith .run).detV.coherent ∧ (resetWith .run).detH.coherent ∧
      (resetWith .run).queuesSound ∧ (resetWith .run).slotsSound := by
  refine ⟨rfl, ⟨?_, ?_, ?_, trivial⟩, ⟨?_, ?_, ?_, trivial⟩, fun i => ?_, fun n => ?_⟩
  iterate 6 decide
  · match i with
    | 0 | 1 | 2 | 3 => exact reset_sound
  · match n with
    | 0 | 1 | 2 | 3 | 4 | 5 | 6 | 7 => exact ⟨by decide +kernel, Nat.zero_le _, Nat.zero_le _, by decide, fun _ => rfl, fun h => SigState.noConfusion h⟩

theorem witness_StepsKeepSnippetSlotsOwned :
    (resetWith .run).slotsOwned ∧ (resetWith .run).outboxSound ∧ step (resetWith .run) = .next State.reset := by
  refine ⟨fun n => ?_, trivial, rfl⟩
  revert n
  decide +kernel

end Sys2Proof.Tests
end

section
/-! Arithmetic (chapter 0, R2). Floor division, the level and offset steps that use it, and the clamped truncating ratios. -/

namespace Sys2Proof.Machine

/-! ## Floor division by a power of two -/

/-- The two bounds that make a quotient by a power of two the floor, for negative numbers too. -/
theorem ediv_two_pow_bounds (d : Int) (k : Nat) : d / 2 ^ k * 2 ^ k ≤ d ∧ d < (d / 2 ^ k + 1) * 2 ^ k :=
  have pos : (0 : Int) < 2 ^ k := by positivity
  ⟨Int.ediv_mul_le d pos.ne', Int.lt_ediv_add_one_mul_self d pos⟩

/-- A floored step from `old` toward `e` stays at or above any bound of both: it rounds down, but never past `e`. -/
theorem le_floorStep {b old e : Int} (k : Nat) (ho : b ≤ old) (he : b ≤ e) : b ≤ old + (e - old) / 2 ^ k := by
  have pos : (0 : Int) < 2 ^ k := by positivity
  have quotient : b - old ≤ (e - old) / 2 ^ k := by
    rw [Int.le_ediv_iff_mul_le pos]
    calc (b - old) * 2 ^ k ≤ b - old := mul_le_of_one_le_right (by omega) pos
      _ ≤ e - old := by omega
  omega

/-! ## The level step (R26) -/

/-- No level step goes below 0, so the natural number stored is the floored step itself. -/
theorem levelStep_cast (k old e : Nat) : (levelStep k old e : Int) = old + ((e : Int) - old) / 2 ^ k :=
  Int.toNat_of_nonneg (le_floorStep k (by omega) (by omega))

/-- A level stays at or above any bound of the old level and the energy. -/
theorem le_levelStep {k old e b : Nat} (ho : b ≤ old) (he : b ≤ e) : b ≤ levelStep k old e := by
  have step : (b : Int) ≤ levelStep k old e := by
    rw [levelStep_cast]
    exact le_floorStep k (by omega) (by omega)
  omega

/-- A level above the energy falls by at least 1: the floor of a negative quotient is at most -1. -/
theorem levelStep_lt {k old e : Nat} (h : e < old) : levelStep k old e < old := by
  have drop : ((e : Int) - old) / 2 ^ k < 0 := Int.ediv_neg_of_neg_of_pos (by omega) (by positivity)
  have step := levelStep_cast k old e
  omega

/-! ## The offset step (R20) -/

/-- The offset after a count that is not clipped. -/
theorem nextOffset_of_not_clipped {level : Nat} {x : Int} (h : isClipped level x = false) (a : Nat) (m : Int) :
    nextOffset a level m x = m + (x - m) / 2 ^ a := by
  simp [nextOffset, h]

/-! ## Ratios in sixteenths (R27, R67, R68) -/

/-- A truncated quotient, and the clamp to the largest ratio made after the division. -/
theorem clamped_quotient (a : Nat) {b : Nat} (hb : 0 < b) :
    ∃ q, q * b ≤ a ∧ a < (q + 1) * b ∧ min Config.x16Top (a / b) = min 4095 q :=
  ⟨a / b, Nat.div_mul_le_self a b, mul_comm b _ ▸ Nat.lt_mul_div_succ a hb, rfl⟩

/-- Settles O10: the floor bounds are those of the quotient inside each step, the three ratios are one clamped quotient, and the
level lies between the old level and the energy by the bounds of the level step. -/
theorem floorDivisionRoundsDown : Obligations.FloorDivisionRoundsDown := by
  refine ⟨⟨by decide, fun k old e => ?_, fun a level m x unclipped => ?_, fun S L lmin pos => ?_,
    fun peak reference lmin pos => ?_, fun H V => ?_⟩, fun k old e => ⟨fun rising => ?_, fun falling => ?_⟩⟩
  · obtain ⟨lower, upper⟩ := ediv_two_pow_bounds ((e : Int) - old) k
    exact ⟨_, lower, upper, levelStep_cast k old e⟩
  · obtain ⟨lower, upper⟩ := ediv_two_pow_bounds (x - m) a
    exact ⟨_, lower, upper, nextOffset_of_not_clipped unclipped a m⟩
  · exact clamped_quotient (16 * S) (lt_max_of_lt_right pos)
  · exact clamped_quotient (16 * peak) (lt_max_of_lt_right pos)
  · exact clamped_quotient (16 * H) (lt_max_of_lt_right Nat.one_pos)
  · exact ⟨le_levelStep le_rfl rising, levelStep_le rising le_rfl⟩
  · exact ⟨le_levelStep falling.le le_rfl, levelStep_lt falling⟩

end Sys2Proof.Machine
end

section
/-! The energies of the detectors (chapter 2, R25). -/

namespace Sys2Proof.Machine

/-! ## What a detector takes from a triple -/

/-- Detector V's energy over the integers: the sign of the conditioned value is lost in its square. -/
theorem Triple.energy_v_cast (t : Triple) : (t.energy .v : Int) = t.cond.z ^ 2 := Int.natAbs_sq t.cond.z

/-- Detector H's energy over the integers: the halving floors there too, since the sum of the squares is not negative. -/
theorem Triple.energy_h_cast (t : Triple) : (t.energy .h : Int) = (t.cond.n ^ 2 + t.cond.e ^ 2) / 2 := by
  simp only [Triple.energy, Nat.cast_ofNat, Int.natCast_ediv, Int.natCast_add, Nat.cast_pow, Int.natCast_natAbs, sq_abs]

/-- Counts give energies of at most 2^46: Detector H's is the floored mean of two squares that each obey the bound. -/
theorem Triple.energy_le {t : Triple} (hz : isCount t.cond.z) (hn : isCount t.cond.n) (he : isCount t.cond.e) (d : Det) :
    t.energy d ≤ 2 ^ 46 := by
  cases d with
  | v => exact isCount_sq hz
  | h =>
    have north := isCount_sq hn
    have east := isCount_sq he
    simp only [Triple.energy]
    omega

/-- The conditioned values alone decide the energy: no mark, raw count or time enters it. -/
theorem Triple.energy_congr {t u : Triple} (h : t.cond = u.cond) (d : Det) : t.energy d = u.energy d := by
  cases d <;> simp only [Triple.energy, h]

/-! ## The first triple of a run (R20) -/

/-- The conditioned values of a triple that begins a run are 0, whatever the offsets were. -/
@[simp] theorem conditionTriple_cond_of_disc (p : InputSettings) (m : Option (ZNE Int)) (x : PortTriple) :
    (conditionTriple p m x true).cond = ⟨0, 0, 0⟩ := rfl

/-- A triple whose conditioned values are 0 has energy 0 for both detectors. -/
theorem Triple.energy_eq_zero {t : Triple} (h : t.cond = ⟨0, 0, 0⟩) (d : Det) : t.energy d = 0 := by
  cases d <;> simp [Triple.energy, h]

/-- Settles O11: the two energies over the integers, the bound from that of a count's square, the worked value from Detector H's
equation, and the first triple of a run from its conditioned values. -/
theorem energyOfATriple : Obligations.EnergyOfATriple := by
  refine ⟨fun t => ⟨t.energy_v_cast, t.energy_h_cast⟩, fun t d hz hn he => Triple.energy_le hz hn he d, fun t hn he => ?_,
    fun t u d h => Triple.energy_congr h d, fun p m x d => Triple.energy_eq_zero (conditionTriple_cond_of_disc p m x) d⟩
  have worked : (t.energy .h : Int) = 370000 := by rw [t.energy_h_cast, hn, he]; norm_num
  exact_mod_cast worked

end Sys2Proof.Machine
end

section
/-! Requests on pending entries (section 3.4, R63 to R66). CONFIRM and MARK_LONG sweep the table with a mark that confirms; CANCEL
filters it. -/

namespace Sys2Proof.Machine

/-! ## Sweeping the table with a mark that confirms -/

/-- A sweep of the table as two filters: one gives the new table, the other the entries that complete. -/
theorem State.sweepTable_eq (s : State) (touch : Entry → Option Entry) :
    s.sweepTable touch = ({ s with onset := { s.onset with
      table := s.onset.table.filterMap (stays touch) } } : State).completeAll none
        (s.onset.table.filterMap (completes touch)) := by
  rw [State.sweepTable, sweep_eq]

section Confirming

variable {mine : Entry → Bool} {mark : Entry → Entry}

/-- A marked entry that is confirmed by its mark stays exactly while its window is not full (R66). -/
theorem stays_of_confirming (confirming : ∀ e, (mark e).isDone = decide (e.measured = e.measureLen)) (e : Entry) :
    stays (fun e => if mine e then some (mark e) else none) e =
      if mine e then (if e.measured = e.measureLen then none else some (mark e)) else some e := by
  by_cases touched : mine e <;> simp [stays, touched, confirming]

/-- Of the marked entries, those whose window is full complete; an entry that is not marked never does (R66). -/
theorem completes_of_confirming (confirming : ∀ e, (mark e).isDone = decide (e.measured = e.measureLen)) (e : Entry) :
    completes (fun e => if mine e then some (mark e) else none) e =
      if mine e && e.measured == e.measureLen then some (mark e) else none := by
  by_cases touched : mine e <;> simp [completes, touched, confirming]

/-- The sweep that CONFIRM and MARK_LONG share. -/
theorem State.sweepTable_of_confirming (s : State) (confirming : ∀ e, (mark e).isDone = decide (e.measured = e.measureLen)) :
    s.sweepTable (fun e => if mine e then some (mark e) else none) =
      ({ s with onset := { s.onset with
        table := s.onset.table.filterMap fun e =>
          if mine e then (if e.measured = e.measureLen then none else some (mark e)) else some e } } : State).completeAll none
        (s.onset.table.filterMap fun e => if mine e && e.measured == e.measureLen then some (mark e) else none) := by
  rw [State.sweepTable_eq, funext (stays_of_confirming confirming), funext (completes_of_confirming confirming)]

end Confirming

/-! ## The request at the head of its channel -/

section Head

variable {s : State} {d : Det} {n : Nat} {rest : List DetRequest}

/-- What is left of a channel whose head leaves it. -/
theorem State.popRequest_of_head {r : DetRequest} (h : (s.det d).requests = r :: rest) :
    s.popRequest d = s.setDet d { s.det d with requests := rest } := by
  rw [State.popRequest, h, List.tail_cons]

/-- CONFIRM's step on its request (R63). -/
theorem State.takeConfirm_of_head (h : (s.det d).requests = .confirm n :: rest) :
    s.takeConfirm d = (s.setDet d { s.det d with requests := rest }).sweepTable
      fun e => if e.ofEpisode d n then some { e with confirmed := true } else none := by
  simp only [State.takeConfirm, h, State.popRequest_of_head h]

/-- MARK_LONG's step on its request (R65). -/
theorem State.takeMarkLong_of_head (h : (s.det d).requests = .markLong n :: rest) :
    s.takeMarkLong d = (s.setDet d { s.det d with requests := rest }).sweepTable
      fun e => if e.ofEpisode d n then some { e with long := true, confirmed := true } else none := by
  simp only [State.takeMarkLong, h, State.popRequest_of_head h]

/-- CANCEL's step on its request (R64): it alone reaches the table without a test for completion. -/
theorem State.takeCancel_of_head (h : (s.det d).requests = .cancel n :: rest) :
    s.takeCancel d = { s.setDet d { s.det d with requests := rest } with
      onset := { s.onset with table := s.onset.table.filter fun e => !e.ofEpisode d n }
      counters := { s.counters with
        glitches := ctr s.counters.glitches (s.onset.table.filter fun e => e.ofEpisode d n).length } } := by
  simp only [State.takeCancel, h, State.popRequest_of_head h, State.setDet_onset, State.setDet_counters]

end Head

/-- Settles O25: CONFIRM and MARK_LONG are one sweep with two marks, each of which confirms, so that a full window alone decides
completion; CANCEL is a filter and a count. -/
theorem episodeRequestsReachItsEntries : Obligations.EpisodeRequestsReachItsEntries := by
  intro s d n rest high
  refine ⟨fun head => ?confirm, fun head => ?markLong, fun head => ?cancel⟩
  case confirm =>
    have confirming (e : Entry) : ({ e with confirmed := true } : Entry).isDone = decide (e.measured = e.measureLen) :=
      Bool.and_true _
    have step : exec (.confirm d) s = .next (s.takeConfirm d) := congrArg _ (State.live_high high _)
    rw [step, State.takeConfirm_of_head head, State.sweepTable_of_confirming _ confirming, State.setDet_onset]
    rfl
  case markLong =>
    have confirming (e : Entry) : ({ e with long := true, confirmed := true } : Entry).isDone = decide (e.measured = e.measureLen) :=
      Bool.and_true _
    have step : exec (.markLong d) s = .next (s.takeMarkLong d) := congrArg _ (State.live_high high _)
    rw [step, State.takeMarkLong_of_head head, State.sweepTable_of_confirming _ confirming, State.setDet_onset]
    rfl
  case cancel =>
    have step : exec (.cancel d) s = .next (s.takeCancel d) := congrArg _ (State.live_high high _)
    rw [step, State.takeCancel_of_head head]
    rfl

end Sys2Proof.Machine
end

section
/-! Measurement of one triple (section 3.3, R60 to R62). -/

namespace Sys2Proof.Machine

/-! ## The peak (R60) -/

section Peak

variable {e : Entry} {t : Triple}

/-- A triple louder than the peak held, or any triple where none is held, becomes the peak. -/
theorem Entry.nextPeak_of_lt (louder : ∀ p, e.peak = some p → p.energy < t.energy e.source.energyDet) :
    e.nextPeak t = some ⟨t.energy e.source.energyDet, e.measured,
      (peakOf e.source.energyDet t).1, (peakOf e.source.energyDet t).2⟩ := by
  unfold Entry.nextPeak
  cases held : e.peak with
  | none => rfl
  | some p => exact if_pos (louder p held)

/-- A tie keeps the earlier peak. -/
theorem Entry.nextPeak_of_le {p : Peak} (held : e.peak = some p) (quieter : t.energy e.source.energyDet ≤ p.energy) :
    e.nextPeak t = some p := by
  unfold Entry.nextPeak
  rw [held]
  exact if_neg quieter.not_gt

end Peak

/-! ## The polarity work state (R62) -/

section Work

variable {e : Entry} {z : Int}

/-- The onset triple gives the onset sign and begins the search. -/
theorem Entry.nextWork_of_onset (first : e.measured = 0) : e.nextWork z = ⟨signOf z, z, none⟩ := if_pos first

/-- Once an extremum is recorded the search is over. -/
theorem Entry.nextWork_of_found {x : Int × Nat} (later : e.measured ≠ 0) (found : e.work.extremum = some x) :
    e.nextWork z = e.work := by
  rw [Entry.nextWork, if_neg later, found]

/-- A magnitude that does not grow makes the previous triple the first extremum. -/
theorem Entry.nextWork_of_le (later : e.measured ≠ 0) (searching : e.work.extremum = none)
    (falls : z.natAbs ≤ e.work.previous.natAbs) :
    e.nextWork z = { e.work with extremum := some (e.work.previous, e.measured - 1) } := by
  simp only [Entry.nextWork, if_neg later, searching, if_pos falls]

/-- A magnitude that grows keeps the search going. -/
theorem Entry.nextWork_of_lt (later : e.measured ≠ 0) (searching : e.work.extremum = none)
    (grows : e.work.previous.natAbs < z.natAbs) : e.nextWork z = { e.work with previous := z } := by
  simp only [Entry.nextWork, if_neg later, searching, if_neg grows.not_ge]

end Work

/-- Settles O27: the peak by its two cases, the polarity work state by its four, the marks as disjunctions; the count, the sums and
the frame are the fields of the measured entry. -/
theorem measurementOfOneTriple : Obligations.MeasurementOfOneTriple := by
  intro e t d component amplitude m
  have recorded : peakOf d t = (component, amplitude) := by
    clear_value d
    cases d with
    | v => rfl
    | h =>
      by_cases north : t.cond.e.natAbs ≤ t.cond.n.natAbs <;> simp [peakOf, component, amplitude, north]
  have clipped : m.clipped = true ↔ e.clipped = true ∨ t.clip.z = true ∨ t.clip.n = true ∨ t.clip.e = true := by
    simp only [m, Entry.measure, Bool.or_eq_true, or_assoc]
  have filled : m.filled = true ↔ e.filled = true ∨ t.filled = true := Bool.or_eq_true_iff
  have louder (h : ∀ p, e.peak = some p → p.energy < t.energy d) :
      m.peak = some ⟨t.energy d, e.measured, component, amplitude⟩ := by
    have new : m.peak = some ⟨t.energy d, e.measured, (peakOf d t).1, (peakOf d t).2⟩ := Entry.nextPeak_of_lt h
    rw [new, recorded]
  exact ⟨rfl, rfl, rfl, clipped, filled, louder, fun _ => Entry.nextPeak_of_le, Entry.nextWork_of_onset,
    fun later _ => Entry.nextWork_of_found later,
    fun later searching => ⟨Entry.nextWork_of_le later searching, Entry.nextWork_of_lt later searching⟩,
    rfl, rfl, rfl, rfl, rfl, rfl, rfl, rfl, rfl, rfl, rfl, rfl, rfl, rfl, rfl, rfl⟩

end Sys2Proof.Machine
end

section
/-! QSET (chapter 6, R129 to R133): batch level and hold time of one queue. -/

namespace Sys2Proof.Machine

/-! ## Naming a queue -/

/-- A number above 3 names no queue. -/
theorem queueOf_of_le {v : Nat} (h : 4 ≤ v) : queueOf v = none := dif_neg h.not_gt

/-- A queue's own number names it. -/
@[simp] theorem queueOf_val (i : Fin 4) : queueOf i.val = some i := dif_pos i.isLt

/-! ## A running timer against the hold time in force (R129) -/

/-- The timer has reached the hold time: it runs, and a hold time of 0 is never reached. -/
theorem Queue.holdReached_iff (q : Queue) : q.holdReached = true ↔ ∃ n, q.timer = .running n ∧ q.hold ≠ 0 ∧ q.hold ≤ n := by
  unfold Queue.holdReached
  cases q.timer <;> simp

/-- The timer has not reached the hold time. -/
theorem Queue.holdReached_eq_false_iff (q : Queue) : q.holdReached = false ↔ ∀ n, q.timer = .running n → q.hold = 0 ∨ n < q.hold := by
  rw [← Bool.not_eq_true, q.holdReached_iff]
  push Not
  exact forall_congr' fun n => imp_congr_right fun _ => or_iff_not_imp_left.symm

/-! ## The fields applied to their queue (R133) -/

/-- The queue with the fields of a QSET stored, before the timer and the ready state take them up. -/
def Queue.storeQset (q : Queue) (fs : List Nat) : Queue :=
  { q with
    batch := (fs[1]?.map fun v => max 1 (min 32 v)).getD q.batch
    hold := (fs[2]?.map fun v => min 10000 v).getD q.hold }

/-- The fields are stored as settings, each at its nearest limit (R164). -/
theorem Queue.storeQset_eq (q : Queue) (fs : List Nat) :
    q.storeQset fs = { q with batch := setting fs 1 1 32 q.batch, hold := setting fs 2 0 Config.holdTop q.hold } := by
  simp only [Queue.storeQset, setting_eq, Config.holdTop, Nat.zero_max]

/-- Once the fields are stored, the new values alone decide whether the timer expires and whether the queue becomes ready. -/
theorem Queue.applyQset_eq (q : Queue) (fs : List Nat) :
    q.applyQset fs =
      { q.storeQset fs with
        timer := if (q.storeQset fs).holdReached then .expired else (q.storeQset fs).timer
        ready := q.ready || (decide ((q.storeQset fs).batch ≤ q.records.length) || (q.storeQset fs).hold == 0 ||
          (q.storeQset fs).holdReached) && !q.records.isEmpty } := by
  rw [Queue.storeQset_eq]
  rfl

/-- A timer at its new hold time expires, which by itself makes a queue with records ready. -/
theorem Queue.applyQset_of_reached {q : Queue} {fs : List Nat} (reached : (q.storeQset fs).holdReached = true) :
    q.applyQset fs = { q.storeQset fs with timer := .expired, ready := q.ready || !q.records.isEmpty } := by
  simp only [Queue.applyQset_eq, reached, if_true, Bool.or_true, Bool.true_and]

/-- Any other timer stands; the new batch level and a hold time of 0 are what is left to make the queue ready. -/
theorem Queue.applyQset_of_not_reached {q : Queue} {fs : List Nat} (short : (q.storeQset fs).holdReached = false) :
    q.applyQset fs =
      { q.storeQset fs with
        ready := q.ready ||
          (decide ((q.storeQset fs).batch ≤ q.records.length ∨ (q.storeQset fs).hold = 0) && !q.records.isEmpty) } := by
  simp only [Queue.applyQset_eq, short, Bool.false_eq_true, if_false, Bool.or_false, Bool.decide_or, beq_eq_decide]

/-! ## The message (R133, R164) -/

section Taken

variable {m : InMsg} {s : State}

/-- Without a queue number nothing applies. -/
theorem takeQset_of_none (h : (takeFields [1, 1, 2] m.body)[0]? = none) : takeQset m s = ackSettings m false 0 s := by
  simp only [takeQset, h]

/-- A number that names no queue is refused. -/
theorem takeQset_of_noQueue {v : Nat} (h : (takeFields [1, 1, 2] m.body)[0]? = some v) (above : 4 ≤ v) :
    takeQset m s = s.reply (.rfsd m.code .slot) := by
  simp only [takeQset, h, queueOf_of_le above]

/-- The queue named takes the fields and makes its starvation test. -/
theorem takeQset_of_queue {i : Fin 4} (h : (takeFields [1, 1, 2] m.body)[0]? = some i.val) :
    takeQset m s = ackSettings m
      (outside (takeFields [1, 1, 2] m.body) 1 1 32 || outside (takeFields [1, 1, 2] m.body) 2 0 10000)
      (takeFields [1, 1, 2] m.body).length
      (s.putQueue i ((s.queues.get i).applyQset (takeFields [1, 1, 2] m.body))) := by
  simp only [takeQset, h, queueOf_val]

/-- QSET's step on the message it decodes. -/
theorem exec_qset_of_decodes (ready : s.decodes m) (code : m.code = 0x11) : exec .qset s = .next (takeQset m s.popMessage) :=
  congrArg _ (State.live_decode_taken (wanted := fun m => m.code == 0x11) ready (beq_iff_eq.mpr code) rfl)

end Taken

/-- Settles O43: the decode is one of QSET's three cases; CLAMPED is a field outside its range, and the new queue is that of the
two timer cases. -/
theorem qsetAppliesToItsQueue : Obligations.QsetAppliesToItsQueue := by
  intro s m ready code fs
  rw [exec_qset_of_decodes ready code]
  refine ⟨fun absent => ?none, fun v number above => ?slot, fun i number => ?queue⟩
  case none => rw [takeQset_of_none absent, ackSettings, code]
  case slot => rw [takeQset_of_noQueue number above, code]
  case queue =>
    refine ⟨(s.queues.get i).applyQset fs, outside fs 1 1 32 || outside fs 2 0 10000, ?_, ?_, fun reached => ?_, fun short => ?_⟩
    · rw [takeQset_of_queue number, ackSettings, code, State.popMessage_queues]
    · simp only [Bool.or_eq_true, outside_iff, Nat.not_lt_zero, false_or]
    · exact Queue.applyQset_of_reached ((Queue.holdReached_iff _).mpr reached)
    · exact Queue.applyQset_of_not_reached ((Queue.holdReached_eq_false_iff _).mpr short)

end Sys2Proof.Machine
end

section
/-! What a command can change, said once: the parts of the state that the invariants speak of, and the footprint of every command
among them. An invariant that rests on no part of a command's footprint is kept by that command. -/

namespace Sys2Proof.Machine

/-! ## Parts and frames -/

/-- The parts of the state that the invariants speak of. -/
inductive Part where
  | pending
  | ring
  | feeds
  | detectors
  | numbers
  | settings
  | table
  | recent
  | events
  | outbox
  | routes
  | records
  | queues
  | bankSlots
  | snipSlots
  | inbox
  | replies
  | flushing
  | counters
  deriving DecidableEq

/-- What the invariants see of a detector's own work: its state, levels, episode, and what is due. -/
def Detector.work (x : Detector) : DetState × Nat × Nat × Nat × Option Episode × Option Due :=
  (x.state, x.short, x.long, x.ratio, x.episode, x.due)

/-- The numbers to be given next: pick, event, and the two detectors' episodes. -/
def State.nextNumbers (s : State) : Nat × Nat × Nat × Nat :=
  (s.onset.nextPick, s.assoc.nextEvent, s.detV.nextEpisode, s.detH.nextEpisode)

/-- Every setting of the part. -/
def State.allSettings (s : State) : InputSettings × DetSettings × DetSettings × OnsetSettings × PhaseSettings × EventSettings ×
    Four (Nat × Nat) × SnipSettings :=
  (s.port.settings, s.detV.settings, s.detH.settings, s.onset.onst, s.onset.phas, s.assoc.settings,
    s.queues.map fun q => (q.batch, q.hold), s.snips.settings)

/-- The part is the same in both states. -/
def Part.same (s t : State) : Part → Prop
  | pending => t.pending = s.pending
  | ring => t.ring = s.ring
  | feeds => t.feeds = s.feeds
  | detectors => (t.detV.work, t.detH.work) = (s.detV.work, s.detH.work)
  | numbers => t.nextNumbers = s.nextNumbers
  | settings => t.allSettings = s.allSettings
  | table => t.onset.table = s.onset.table
  | recent => t.assoc.recent = s.assoc.recent
  | events => t.assoc.events = s.assoc.events
  | outbox => t.outbox = s.outbox
  | routes => t.routes = s.routes
  | records => t.queues.map Queue.records = s.queues.map Queue.records
  | queues => t.queues = s.queues
  | bankSlots => t.bank.slots = s.bank.slots
  | snipSlots => t.snips.slots = s.snips.slots
  | inbox => t.link.inbox = s.link.inbox
  | replies => t.link.replies = s.link.replies
  | flushing => t.flushing = s.flushing
  | counters => t.counters = s.counters

/-- Nothing but the parts listed differs. -/
def Frame (ps : List Part) (s t : State) : Prop := ∀ p : Part, ps.contains p = true ∨ p.same s t

theorem Frame.refl (ps : List Part) (s : State) : Frame ps s s := by
  intro p
  cases p <;> exact .inr rfl

theorem Frame.same {ps : List Part} {s t : State} (h : Frame ps s t) (p : Part) (outside : ps.contains p = false) : p.same s t :=
  (h p).resolve_left (Bool.eq_false_iff.mp outside)

theorem Part.same_trans {p : Part} {s t u : State} (h : p.same s t) (k : p.same t u) : p.same s u := by
  cases p <;> exact Eq.trans k h

theorem Frame.trans {ps : List Part} {s t u : State} (h : Frame ps s t) (k : Frame ps t u) : Frame ps s u := fun p =>
  (h p).elim .inl fun first => (k p).imp id fun second => Part.same_trans first second

theorem Frame.mono {ps qs : List Part} {s t : State} (h : Frame ps s t) (sub : ps.all qs.contains = true) :
    Frame qs s t := fun p =>
  (h p).imp (fun inside => List.all_eq_true.mp sub p (List.contains_iff_mem.mp inside)) id

theorem Frame.ite {ps : List Part} {s t u : State} {c : Prop} [Decidable c] (h : Frame ps s t) (k : Frame ps s u) :
    Frame ps s (if c then t else u) := by
  split
  · exact h
  · exact k

/-- A chain of changes, each framed by the same parts. -/
theorem Frame.foldl {ps : List Part} {α : Type} {f : State → α → State} (each : ∀ s a, Frame ps s (f s a)) (as : List α)
    (s : State) : Frame ps s (as.foldl f s) := by
  induction as generalizing s with
  | nil => exact .refl ps s
  | cons a as ih => exact (each s a).trans (ih (f s a))

/-! ## Counters, notices, replies, the line -/

variable {ps : List Part}

theorem frame_counters (s : State) (c : Counters) (h : ps.contains .counters = true) : Frame ps s { s with counters := c } := by
  intro p
  cases p with
  | counters => exact .inl h
  | _ => exact .inr rfl

theorem State.notify_frame (s : State) (n : Notice) : Frame ps s (s.notify n) := by
  intro p
  cases p <;> exact .inr rfl

theorem State.reply_frame (s : State) (r : Reply) (h : ps.contains .replies = true) : Frame ps s (s.reply r) := by
  intro p
  cases p with
  | replies => exact .inl h
  | _ => exact .inr rfl

theorem State.send_frame (s : State) (code : Byte) (body : List Byte) : Frame ps s (s.send code body) := by
  intro p
  cases p <;> exact .inr rfl

theorem State.sendReply_frame (s : State) (r : Reply) (h : ps.contains .replies = true) : Frame ps s (s.sendReply r) := by
  intro p
  cases p with
  | replies => exact .inl h
  | _ => exact .inr rfl

/-- A link port with the same inbound buffer and the same replies. -/
theorem frame_link {s : State} {l : LinkPort} (inbox : l.inbox = s.link.inbox) (replies : l.replies = s.link.replies) :
    Frame ps s { s with link := l } := by
  intro p
  cases p with
  | inbox => exact .inr inbox
  | replies => exact .inr replies
  | _ => exact .inr rfl

/-- A link port with the same replies. -/
theorem frame_inbox {s : State} {l : LinkPort} (replies : l.replies = s.link.replies) (h : ps.contains .inbox = true) :
    Frame ps s { s with link := l } := by
  intro p
  cases p with
  | inbox => exact .inl h
  | replies => exact .inr replies
  | _ => exact .inr rfl

theorem State.popMessage_frame (s : State) (h : ps.contains .inbox = true) : Frame ps s s.popMessage :=
  frame_inbox (LinkPort.afterDecode_replies _) h

theorem State.raiseSignal_frame (s : State) (c : Cause) (h : ps.contains .feeds = true) : Frame ps s (s.raiseSignal c) := by
  intro p
  cases p with
  | feeds => exact .inl h
  | _ => exact .inr rfl

theorem State.finishFlush_frame (s : State) (hf : ps.contains .flushing = true) (hr : ps.contains .replies = true) :
    Frame ps s s.finishFlush := by
  rcases s.finishFlush_cases with h | ⟨-, h⟩
  · rw [h]; exact .refl _ s
  · rw [h]
    intro p
    cases p with
    | flushing => exact .inl hf
    | replies => exact .inl hr
    | _ => exact .inr rfl

/-! ## Steps and messages -/

variable {s t : State}

/-- A command's step is framed as the function it applies. -/
theorem Frame.of_live {f : State → State} (h : (Host.Outcome.next (s.live f) : Answer) = .next t) (k : Frame ps s (f s)) :
    Frame ps s t := by
  cases h
  rcases s.live_cases f with h | h <;> rw [h]
  · exact .refl ps s
  · exact k

/-- A message is framed as what its take does, besides the inbound buffer. -/
theorem Frame.of_message {wanted : InMsg → Bool} {owners : InMsg → State → Bool} {take : InMsg → State → State}
    (h : (Host.Outcome.next (s.live fun s => s.decode wanted owners take) : Answer) = .next t)
    (each : ∀ m s, Frame ps s (take m s)) : Frame (.inbox :: ps) s t := by
  refine .of_live h ?_
  rcases s.decode_cases wanted owners take with h | ⟨m, -, -, -, -, -, -, h⟩ <;> rw [h]
  · exact .refl _ s
  · exact (s.popMessage_frame (by simp)).trans ((each m _).mono (by simpa using fun p hp => .inr hp))

/-- An action message is framed as what it does, besides the reply queue. -/
theorem frame_action {act : InMsg → State → State} (need : Nat) (each : ∀ m s, Frame ps s (act m s))
    (m : InMsg) (s : State) (hr : ps.contains .replies = true) : Frame ps s (action need act m s) := by
  unfold action
  split
  · exact s.reply_frame _ hr
  · exact each m s

theorem ackSettings_frame (m : InMsg) (clamped : Bool) (count : Nat) (s : State) (h : ps.contains .replies = true) :
    Frame ps s (ackSettings m clamped count s) := s.reply_frame _ h

end Sys2Proof.Machine
end

section
/-! The footprint of every command's own function, unit by unit. -/

namespace Sys2Proof.Machine

variable {ps : List Part}

/-! ## The Sample Port and the Conditioner (chapter 1) -/

/-- A Sample Port with the same settings. -/
theorem frame_port {s : State} {p : SamplePort} (kept : p.settings = s.port.settings) : Frame ps s { s with port := p } := by
  intro q
  cases q with
  | settings => exact .inr (congrArg (fun x => (x, s.allSettings.2)) kept)
  | _ => exact .inr rfl

theorem State.deliver_frame (s : State) (b : Block) (fill : List PortTriple) (disc : Bool) :
    Frame ps s (s.deliver b fill disc) := frame_port rfl

/-- Delivery after an interruption: one counter, INPUT_LOST, a signal. -/
theorem interrupted_frame (s : State) (c : Counters) (n : Notice) (cause : Cause) (b : Block) :
    Frame [.feeds, .counters] s (((({ s with counters := c } : State).notify n).raiseSignal cause).deliver b [] true) :=
  (((frame_counters s c rfl).trans (State.notify_frame _ n)).trans (State.raiseSignal_frame _ cause rfl)).trans
    (State.deliver_frame _ b [] true)

theorem State.judge_frame (s : State) (b : Block) : Frame [.feeds, .counters] s (s.judge b) := by
  unfold State.judge
  dsimp only
  split
  · split
    · split
      · exact s.deliver_frame b [] false
      · exact interrupted_frame s _ .inputLost .time b
    · split
      · exact (frame_counters s (s.counters.filled _) rfl).trans (State.deliver_frame _ b _ false)
      · exact interrupted_frame s _ .inputLost .gap b
  · have running : Frame [.feeds, .counters] s { s with port := { s.port with input := .running } } := frame_port rfl
    exact (running.trans (State.notify_frame _ .inputFound)).trans (State.deliver_frame _ b [] true)

theorem State.takeBlock_frame (s : State) (b : Block) : Frame [.feeds, .counters] s (s.takeBlock b) := by
  have good : Frame [.feeds, .counters] s s.countGood := frame_counters s _ rfl
  have offered : Frame [.feeds, .counters] s.countGood (s.countGood.offerBlock b) := by
    unfold State.offerBlock
    split
    · exact State.judge_frame _ b
    · exact frame_port rfl
  unfold State.takeBlock
  split
  · exact frame_counters s _ rfl
  · split
    · exact good
    · exact good.trans offered
    · split
      · exact frame_counters s _ rfl
      · exact good.trans offered

theorem State.search_frame (s : State) : Frame ps s s.search := frame_port rfl

theorem State.sampleByte_frame (s : State) (b : Byte) : Frame [.feeds, .counters] s (s.sampleByte b) := by
  unfold State.sampleByte State.frameByte State.endFrame
  split
  · exact .refl _ s
  · split
    · split <;> exact frame_port rfl
    · split
      · exact s.search_frame.trans (frame_counters _ _ rfl)
      · split
        · dsimp only
          split
          · exact s.search_frame.trans (State.takeBlock_frame _ _)
          · exact s.search_frame.trans (frame_counters _ _ rfl)
        · exact frame_port rfl

theorem State.handOn_frame (s : State) (t : PortTriple) (ts : List PortTriple) (h : ps.contains .ring = true) :
    Frame ps s (s.handOn t ts) := by
  intro p
  cases p with
  | ring => exact .inl h
  | _ => exact .inr rfl

/-- A waiting block judged. -/
theorem State.exchange_frame (s : State) : Frame [.feeds, .counters] s s.exchange := by
  unfold State.exchange
  split
  · exact (frame_port rfl).trans (State.judge_frame _ _)
  · exact .refl _ s

theorem State.conditionNext_frame (s : State) : Frame [.ring, .feeds, .counters] s s.conditionNext := by
  unfold State.conditionNext
  split
  · exact .refl _ s
  · split
    · exact (s.handOn_frame _ _ rfl).trans ((State.exchange_frame _).mono rfl)
    · exact .refl _ s

/-! ## The detectors (chapter 2) -/

/-- A detector replaced by one with the same settings. -/
theorem setDet_frame {s : State} {d : Det} {x : Detector} (settings : x.settings = (s.det d).settings) :
    Frame [.feeds, .detectors, .numbers] s (s.setDet d x) := by
  intro p
  cases d <;> cases p with
  | feeds | detectors | numbers => exact .inl rfl
  | settings => exact .inr (by simp only [Part.same, State.allSettings, State.setDet, settings]; rfl)
  | _ => exact .inr rfl

/-- A detector replaced by one with the same settings, feed and next episode number. -/
theorem setDet_frame_work {s : State} {d : Det} {x : Detector} (settings : x.settings = (s.det d).settings)
    (feed : x.feed = (s.det d).feed) (next : x.nextEpisode = (s.det d).nextEpisode) :
    Frame [.detectors] s (s.setDet d x) := by
  intro p
  cases p with
  | detectors => exact .inl rfl
  | feeds => cases d <;> exact .inr (by simp only [Part.same, State.feeds, State.setDet, feed]; rfl)
  | numbers => cases d <;> exact .inr (by simp only [Part.same, State.nextNumbers, State.setDet, next]; rfl)
  | _ => exact (setDet_frame settings).same _ rfl |> .inr

@[simp] theorem Detector.recover_settings (x : Detector) : x.recover.settings = x.settings := rfl
@[simp] theorem Detector.recover_feed (x : Detector) : x.recover.feed = x.feed := rfl
@[simp] theorem Detector.recover_nextEpisode (x : Detector) : x.recover.nextEpisode = x.nextEpisode := rfl

/-- The secondary test changes the episode and the requests alone. -/
theorem Detector.secondaryTest_eq (x : Detector) (ep : Episode) (at_ : Ref) :
    ∃ e rs, x.secondaryTest ep at_ = { x with episode := some e, requests := rs } := by
  unfold Detector.secondaryTest
  split
  · exact ⟨_, _, rfl⟩
  · exact ⟨_, x.requests, rfl⟩

/-- The treatment of a triple leaves the settings and the feed. -/
theorem Detector.treat_keeps (x : Detector) (at_ : Ref) (e : Nat) :
    (x.treat at_ e).settings = x.settings ∧ (x.treat at_ e).feed = x.feed := by
  unfold Detector.treat
  split
  · exact ⟨rfl, rfl⟩
  · unfold Detector.warmupTriple
    dsimp only
    split <;> exact ⟨rfl, rfl⟩
  · unfold Detector.quietTriple
    dsimp only
    split <;> exact ⟨rfl, rfl⟩
  · split
    · unfold Detector.triggeredTriple
      dsimp only
      split
      · exact ⟨rfl, rfl⟩
      · split
        · exact ⟨rfl, rfl⟩
        · split
          · exact ⟨rfl, rfl⟩
          · obtain ⟨ep, rs, h⟩ := Detector.secondaryTest_eq _ _ at_
            rw [h]
            exact ⟨rfl, rfl⟩
    · exact ⟨rfl, rfl⟩
  · exact ⟨rfl, rfl⟩

theorem State.detectorTriple_frame (s : State) (d : Det) :
    Frame [.feeds, .detectors, .numbers] s (s.detectorTriple d) := by
  unfold State.detectorTriple
  dsimp only
  split
  · exact setDet_frame (Detector.treat_keeps _ _ _).1
  · exact .refl _ s

theorem Detector.confirmEpisode_keeps (x : Detector) : x.confirmEpisode.settings = x.settings ∧
    x.confirmEpisode.feed = x.feed ∧ x.confirmEpisode.nextEpisode = x.nextEpisode := by
  unfold Detector.confirmEpisode
  split
  · obtain ⟨ep, rs, h⟩ := Detector.secondaryTest_eq _ _ _
    rw [h]
    exact ⟨rfl, rfl, rfl⟩
  · exact ⟨rfl, rfl, rfl⟩

theorem Detector.forceRelease_keeps (x : Detector) : x.forceRelease.settings = x.settings ∧
    x.forceRelease.feed = x.feed ∧ x.forceRelease.nextEpisode = x.nextEpisode := by
  unfold Detector.forceRelease
  split <;> exact ⟨rfl, rfl, rfl⟩

theorem Detector.endWarmup_keeps (x : Detector) : x.endWarmup.settings = x.settings ∧
    x.endWarmup.feed = x.feed ∧ x.endWarmup.nextEpisode = x.nextEpisode := by
  unfold Detector.endWarmup
  split <;> exact ⟨rfl, rfl, rfl⟩

theorem Detector.endRecovery_keeps (x : Detector) : x.endRecovery.settings = x.settings ∧
    x.endRecovery.feed = x.feed ∧ x.endRecovery.nextEpisode = x.nextEpisode := by
  unfold Detector.endRecovery
  split <;> exact ⟨rfl, rfl, rfl⟩

/-- A detector replaced by what a function that leaves settings, feed and numbers makes of it. -/
theorem setDet_frame_of_keeps {s : State} {d : Det} {x : Detector} (h : x.settings = (s.det d).settings ∧
    x.feed = (s.det d).feed ∧ x.nextEpisode = (s.det d).nextEpisode) : Frame [.detectors] s (s.setDet d x) :=
  setDet_frame_work h.1 h.2.1 h.2.2

/-- A signal taken leaves settings and next episode number, and its feed is without the signal. -/
theorem Detector.interrupt_keeps (x : Detector) : x.interrupt.settings = x.settings ∧
    x.interrupt.feed = x.feed.takeSignal ∧ x.interrupt.nextEpisode = x.nextEpisode := by
  unfold Detector.interrupt
  split <;> exact ⟨rfl, rfl, rfl⟩

theorem State.detectorSignal_frame (s : State) (d : Det) (want : Cause → Bool) :
    Frame [.feeds, .detectors] s (s.detectorSignal d want) := by
  unfold State.detectorSignal
  dsimp only
  split
  · exact .refl _ s
  · split
    · obtain ⟨settings, -, next⟩ := (s.det d).interrupt_keeps
      intro p
      cases p with
      | feeds | detectors => exact .inl rfl
      | numbers => cases d <;> exact .inr (by simp only [Part.same, State.nextNumbers, State.setDet, next]; rfl)
      | _ => exact (setDet_frame settings).same _ rfl |> .inr
    · exact .refl _ s

/-- A detector's channel of requests is no part the invariants speak of. -/
theorem State.popRequest_frame (s : State) (d : Det) : Frame ps s (s.popRequest d) := by
  intro p
  cases d <;> cases p <;> exact .inr rfl

/-- What a DETS makes of a detector, whatever it is, leaves feed and next episode number. -/
theorem Detector.detsEffect_keeps (b x : Detector) (en : Option Nat) :
    (b.detsEffect x en).feed = x.feed ∧ (b.detsEffect x en).nextEpisode = x.nextEpisode ∧
      (b.detsEffect x en).settings = x.settings := by
  have ended : x.endEpisode.feed = x.feed ∧ x.endEpisode.nextEpisode = x.nextEpisode ∧ x.endEpisode.settings = x.settings := by
    unfold Detector.endEpisode
    split <;> exact ⟨rfl, rfl, rfl⟩
  unfold Detector.detsEffect
  split
  · unfold Detector.disable
    split
    · exact ⟨rfl, rfl, rfl⟩
    · exact ended
  · split
    · split <;> exact ⟨rfl, rfl, rfl⟩
    · split
      · exact ended
      · exact ⟨rfl, rfl, rfl⟩

theorem Detector.takeDets_keeps (x : Detector) (fs : List Nat) :
    (x.takeDets fs).feed = x.feed ∧ (x.takeDets fs).nextEpisode = x.nextEpisode ∧
      (x.takeDets fs).settings = (x.settings.store fs).pairs :=
  Detector.detsEffect_keeps x _ _

theorem takeDets_frame (m : InMsg) (s : State) : Frame [.detectors, .settings, .replies] s (takeDets m s) := by
  have one (sel : Bool) (fs : List Nat) (x : Detector) :
      (if sel then x.takeDets fs else x).feed = x.feed ∧ (if sel then x.takeDets fs else x).nextEpisode = x.nextEpisode := by
    cases sel
    · exact ⟨rfl, rfl⟩
    · exact ⟨(x.takeDets_keeps fs).1, (x.takeDets_keeps fs).2.1⟩
  have stored : Frame [.detectors, .settings, .replies] s { s with
      detV := if detsSelects (detsFields m) .v then s.detV.takeDets (detsFields m) else s.detV
      detH := if detsSelects (detsFields m) .h then s.detH.takeDets (detsFields m) else s.detH } := by
    intro p
    cases p with
    | detectors | settings => exact .inl rfl
    | feeds => exact .inr (by simp only [Part.same, State.feeds, (one _ _ _).1])
    | numbers => exact .inr (by simp only [Part.same, State.nextNumbers, (one _ _ _).2])
    | _ => exact .inr rfl
  exact stored.trans (ackSettings_frame m _ _ _ rfl)

end Sys2Proof.Machine
end

section
/-! The footprint of every command's own function: the Onset Unit, the Signature Bank, the Association Unit. -/

namespace Sys2Proof.Machine

variable {ps : List Part}

/-! ## The Onset Unit (chapter 3) -/

theorem frame_table (s : State) (es : List Entry) (h : ps.contains .table = true) :
    Frame ps s { s with onset := { s.onset with table := es } } := by
  intro p
  cases p with
  | table => exact .inl h
  | _ => exact .inr rfl

theorem State.completeAll_frame (s : State) (gap : Option Cause) (es : List Entry) (h : ps.contains .numbers = true) :
    Frame ps s (s.completeAll gap es) := by
  rw [State.completeAll_eq]
  intro p
  cases p with
  | numbers => exact .inl h
  | _ => exact .inr rfl

theorem State.completeOne_frame (s : State) (gap : Option Cause) (e : Entry) (h : ps.contains .numbers = true) :
    Frame ps s (s.completeOne gap e) := s.completeAll_frame gap [e] h

theorem State.sweepTable_frame (s : State) (touch : Entry → Option Entry) : Frame [.table, .numbers] s (s.sweepTable touch) := by
  rw [State.sweepTable_eq]
  exact (frame_table s _ rfl).trans (State.completeAll_frame _ _ _ rfl)

theorem State.setBoundary_frame (s : State) (c : Cause) : Frame ps s (s.setBoundary c) := by
  intro p
  cases p <;> exact .inr rfl

theorem State.countFlushed_frame (s : State) (n : Nat) (h : ps.contains .counters = true) : Frame ps s (s.countFlushed n) :=
  frame_counters s _ h

theorem State.overrun_frame (s : State) (h : ps.contains .counters = true) : Frame ps s s.overrun := frame_counters s _ h

theorem State.placeEntry_frame (s : State) (e : Entry) : Frame [.table, .numbers] s (s.placeEntry e) := by
  unfold State.placeEntry
  split
  · exact s.completeOne_frame none e rfl
  · exact frame_table s _ rfl

theorem State.detectorFirst_frame (s : State) (e : Entry) : Frame [.table, .counters] s (s.detectorFirst e).1 := by
  unfold State.detectorFirst
  split
  · split
    · exact .refl _ s
    · intro p
      cases p with
      | table | counters => exact .inl rfl
      | _ => exact .inr rfl
  · exact .refl _ s

theorem frame_setLast (s : State) (d : Det) (l : LastOnset) : Frame ps s { s with onset := s.onset.setLast d l } := by
  intro p
  cases d <;> cases p <;> exact .inr rfl

theorem State.createDetectorEntry_frame (s : State) (d : Det) (kind : PickKind) (episode : Nat) (trigger : Ref) (reference : Nat)
    (confirmed : Bool) : Frame [.table, .numbers, .counters] s
      (s.createDetectorEntry d kind episode trigger reference confirmed) := by
  unfold State.createDetectorEntry
  dsimp only
  split
  · exact s.countFlushed_frame 1 rfl
  · split
    · exact s.overrun_frame rfl
    · split
      · exact (frame_setLast s d _).trans (State.completeOne_frame _ _ _ rfl)
      · exact ((frame_setLast s d _).trans ((State.detectorFirst_frame _ _).mono rfl)).trans ((State.placeEntry_frame _ _).mono rfl)

theorem State.takePrimary_frame (s : State) (d : Det) : Frame [.table, .numbers, .counters] s (s.takePrimary d) := by
  unfold State.takePrimary
  split
  · split
    · exact .refl _ s
    · exact (s.popRequest_frame d).trans (State.createDetectorEntry_frame _ _ _ _ _ _ _)
  · exact .refl _ s

theorem State.takeSecondary_frame (s : State) (d : Det) : Frame [.table, .numbers, .counters] s (s.takeSecondary d) := by
  unfold State.takeSecondary
  split
  · split
    · exact .refl _ s
    · exact (s.popRequest_frame d).trans (State.createDetectorEntry_frame _ _ _ _ _ _ _)
  · exact .refl _ s

theorem State.createSignatureEntry_frame (s : State) (q : SigRequest) :
    Frame [.table, .numbers, .counters] s (s.createSignatureEntry q) := by
  unfold State.createSignatureEntry
  dsimp only
  split
  · exact s.countFlushed_frame 1 rfl
  · split
    · exact s.overrun_frame rfl
    · split
      · exact s.completeOne_frame _ _ rfl
      · split
        · intro p
          cases p with
          | table | counters => exact .inl rfl
          | _ => exact .inr rfl
        · exact (s.placeEntry_frame _).mono rfl

theorem State.takeSignature_frame (s : State) : Frame [.table, .numbers, .counters] s s.takeSignature := by
  unfold State.takeSignature
  split
  · exact .refl _ s
  · split
    · exact .refl _ s
    · have popped (qs : List SigRequest) : Frame [.table, .numbers, .counters] s
          { s with bank := { s.bank with requests := qs } } := by
        intro p
        cases p <;> exact .inr rfl
      exact (popped _).trans (State.createSignatureEntry_frame _ _)

theorem State.takeConfirm_frame (s : State) (d : Det) : Frame [.table, .numbers] s (s.takeConfirm d) := by
  unfold State.takeConfirm
  split
  · exact (s.popRequest_frame d).trans (State.sweepTable_frame _ _)
  · exact .refl _ s

theorem State.takeMarkLong_frame (s : State) (d : Det) : Frame [.table, .numbers] s (s.takeMarkLong d) := by
  unfold State.takeMarkLong
  split
  · exact (s.popRequest_frame d).trans (State.sweepTable_frame _ _)
  · exact .refl _ s

theorem State.takeCancel_frame (s : State) (d : Det) : Frame [.table, .counters] s (s.takeCancel d) := by
  unfold State.takeCancel
  split
  · refine (s.popRequest_frame d).trans ?_
    intro p
    cases p with
    | table | counters => exact .inl rfl
    | _ => exact .inr rfl
  · exact .refl _ s

/-- An Onset Unit whose feed alone has moved on, and whose table may be emptied. -/
theorem frame_onsetFeed (s : State) (f : Feed) (es : List Entry) (hf : ps.contains .feeds = true) (ht : ps.contains .table = true) :
    Frame ps s { s with onset := { s.onset with feed := f, table := es } } := by
  intro p
  cases p with
  | feeds => exact .inl hf
  | table => exact .inl ht
  | _ => exact .inr rfl

theorem State.onsetTriple_frame (s : State) : Frame [.feeds, .table, .numbers] s s.onsetTriple := by
  unfold State.onsetTriple
  dsimp only
  split
  · exact (frame_onsetFeed s _ _ rfl rfl).trans ((State.sweepTable_frame _ _).mono rfl)
  · exact .refl _ s

theorem State.onsetDiscontinuity_frame (s : State) : Frame [.feeds, .table, .numbers] s s.onsetDiscontinuity := by
  unfold State.onsetDiscontinuity
  split
  · exact .refl _ s
  · split
    · exact .refl _ s
    · exact ((frame_onsetFeed s _ _ rfl rfl).trans (State.completeAll_frame _ _ _ rfl)).trans (State.setBoundary_frame _ _)

theorem State.onsetFlush_frame (s : State) : Frame [.feeds, .table, .counters] s s.onsetFlush := by
  unfold State.onsetFlush
  split
  · exact ((frame_onsetFeed s _ _ rfl rfl).trans (State.countFlushed_frame _ _ rfl)).trans (State.setBoundary_frame _ _)
  · exact .refl _ s

theorem takeOnst_frame (m : InMsg) (s : State) : Frame [.settings, .replies] s (takeOnst m s) := by
  intro p
  cases p with
  | settings | replies => exact .inl rfl
  | _ => exact .inr rfl

theorem takePhas_frame (m : InMsg) (s : State) : Frame [.settings, .replies] s (takePhas m s) := by
  intro p
  cases p with
  | settings | replies => exact .inl rfl
  | _ => exact .inr rfl

/-! ## The Signature Bank (chapter 4) -/

theorem frame_bank (s : State) (slots : Eight SigSlot) (rs : List SigRequest) (h : ps.contains .bankSlots = true) :
    Frame ps s { s with bank := { s.bank with slots := slots, requests := rs } } := by
  intro p
  cases p with
  | bankSlots => exact .inl h
  | _ => exact .inr rfl

theorem State.treatSlot_frame (s : State) (idx : Nat) (n : Fin 8) : Frame [.bankSlots, .counters] s (s.treatSlot idx n) := by
  unfold State.treatSlot
  split
  · exact frame_bank s _ _ rfl
  · intro p
    cases p with
    | bankSlots | counters => exact .inl rfl
    | _ => exact .inr rfl

/-- A Signature Bank whose feed and slots have moved on. -/
theorem frame_bankFeed (s : State) (b : SignatureBank) (hf : ps.contains .feeds = true) (hs : ps.contains .bankSlots = true) :
    Frame ps s { s with bank := b } := by
  intro p
  cases p with
  | feeds => exact .inl hf
  | bankSlots => exact .inl hs
  | _ => exact .inr rfl

theorem State.signatureTriple_frame (s : State) : Frame [.feeds, .bankSlots, .counters] s s.signatureTriple := by
  unfold State.signatureTriple
  dsimp only
  split
  · exact (frame_bankFeed s _ rfl rfl).trans (Frame.foldl (fun s n => (s.treatSlot_frame _ n).mono rfl) _ _)
  · exact .refl _ s

theorem State.bankSignal_frame (s : State) (want : Cause → Bool) : Frame [.feeds, .bankSlots] s (s.bankSignal want) := by
  unfold State.bankSignal
  split
  · exact .refl _ s
  · split
    · exact frame_bankFeed s _ rfl rfl
    · exact .refl _ s

theorem takeSigw_frame (m : InMsg) (s : State) : Frame [.bankSlots, .replies] s (takeSigw m s) := by
  unfold takeSigw
  dsimp only
  split
  · exact ackSettings_frame _ _ _ s rfl
  · split
    · exact s.reply_frame _ rfl
    · exact (frame_bank s _ _ rfl).trans (ackSettings_frame _ _ _ _ rfl)

theorem takeSige_frame (m : InMsg) (s : State) : Frame [.bankSlots, .replies] s (takeSige m s) := by
  unfold takeSige
  split
  · exact s.reply_frame _ rfl
  · split
    · exact s.reply_frame _ rfl
    · exact (frame_bank s _ _ rfl).trans (State.reply_frame _ _ rfl)

theorem takeSigd_frame (m : InMsg) (s : State) : Frame [.bankSlots, .replies] s (takeSigd m s) := by
  unfold takeSigd
  dsimp only
  split
  · exact s.reply_frame _ rfl
  · split
    · exact s.reply_frame _ rfl
    · exact s.reply_frame _ rfl
    · exact (frame_bank s _ _ rfl).trans (State.reply_frame _ _ rfl)

/-! ## The Association Unit (chapter 5) -/

theorem State.passOn_frame (s : State) (p : Pick) (event : Nat) (role : Role) (h : ps.contains .outbox = true) :
    Frame ps s (s.passOn p event role) := by
  intro q
  cases q with
  | outbox => exact .inl h
  | _ => exact .inr rfl

theorem State.handReport_frame (s : State) (r : EventReport) (h : ps.contains .outbox = true) : Frame ps s (s.handReport r) := by
  rw [State.handReport_eq]
  intro p
  cases p with
  | outbox => exact .inl h
  | _ => exact .inr rfl

theorem State.closeWhere_frame (s : State) (test : Event → Bool) (cause : Event → CloseCause) :
    Frame [.events, .outbox] s (s.closeWhere test cause) := by
  rw [State.closeWhere_eq]
  intro p
  cases p with
  | events | outbox => exact .inl rfl
  | _ => exact .inr rfl

theorem State.forceRoom_frame (s : State) : Frame [.events, .outbox, .counters] s s.forceRoom := by
  have removed (evs : List Event) (c : Counters) : Frame [.events, .outbox, .counters] s
      { s with assoc := { s.assoc with events := evs }, counters := c } := by
    intro p
    cases p with
    | events | counters => exact .inl rfl
    | _ => exact .inr rfl
  unfold State.forceRoom
  split
  · exact .refl _ s
  · split
    · exact .refl _ s
    · split
      · exact .refl _ s
      · exact (removed _ _).trans (State.handReport_frame _ _ rfl)

theorem State.openEvent_frame (s : State) (p : Pick) (isP : Bool) :
    Frame [.events, .outbox, .counters, .numbers] s (s.openEvent p isP) := by
  have opened (s : State) (evs : List Event) (n : Nat) : Frame [.events, .outbox, .counters, .numbers] s
      { s with assoc := { s.assoc with events := evs, nextEvent := n } } := by
    intro p
    cases p with
    | events | numbers => exact .inl rfl
    | _ => exact .inr rfl
  unfold State.openEvent
  dsimp only
  refine (s.forceRoom_frame.mono rfl).trans ?_
  split
  · exact (opened _ _ _).trans (State.handReport_frame _ _ rfl)
  · exact opened _ _ _

theorem State.changeEvent_frame (s : State) (i : Nat) (f : Event → Event) (h : ps.contains .events = true) :
    Frame ps s (s.changeEvent i f) := by
  intro p
  cases p with
  | events => exact .inl h
  | _ => exact .inr rfl

theorem State.placePick_frame (s : State) (p : Pick) :
    Frame [.events, .outbox, .counters, .numbers] s (s.placePick p).1 := by
  unfold State.placePick
  split
  · unfold State.placeP
    dsimp only
    split
    · exact s.changeEvent_frame _ _ rfl
    · split
      · exact s.changeEvent_frame _ _ rfl
      · exact s.openEvent_frame p true
  · unfold State.placeS
    dsimp only
    split
    · exact s.changeEvent_frame _ _ rfl
    · exact s.openEvent_frame p false
  · unfold State.placeX
    dsimp only
    split
    · exact s.changeEvent_frame _ _ rfl
    · exact .refl _ s

theorem frame_recent (s : State) (l : List RecentPick) (h : ps.contains .recent = true) :
    Frame ps s { s with assoc := { s.assoc with recent := l } } := by
  intro p
  cases p with
  | recent => exact .inl h
  | _ => exact .inr rfl

theorem State.takePick_frame (s : State) (p : Pick) :
    Frame [.recent, .events, .outbox, .counters, .numbers] s (s.takePick p) := by
  unfold State.takePick
  split
  · exact s.passOn_frame _ _ _ rfl
  · exact (((s.placePick_frame p).mono rfl).trans (frame_recent _ _ rfl)).trans (State.passOn_frame _ _ _ _ rfl)

theorem State.associatePick_frame (s : State) :
    Frame [.recent, .events, .outbox, .counters, .numbers] s s.associatePick := by
  unfold State.associatePick
  split
  · exact .refl _ s
  · have popped (qs : List Pick) : Frame [.recent, .events, .outbox, .counters, .numbers] s
        { s with assoc := { s.assoc with picks := qs } } := by
      intro p
      cases p <;> exact .inr rfl
    exact (popped _).trans (State.takePick_frame _ _)

/-- Gap note, fence, and time of the last triple are no parts the invariants speak of. -/
theorem frame_notes (s : State) (note : Option (Option Nat)) (fence : Option Fence) (last : Option Nat) :
    Frame ps s { s with assoc := { s.assoc with gapNote := note, fence := fence, lastTime := last } } := by
  intro p
  cases p <;> exact .inr rfl

theorem frame_assocFeed (s : State) (f : Feed) (h : ps.contains .feeds = true) :
    Frame ps s { s with assoc := { s.assoc with feed := f } } := by
  intro p
  cases p with
  | feeds => exact .inl h
  | _ => exact .inr rfl

theorem frame_abandoned (s : State) (fence : Option Fence) (h : ps.contains .recent = true) :
    Frame ps s { s with assoc := { s.assoc with recent := [], gapNote := none, fence := fence } } := by
  intro p
  cases p with
  | recent => exact .inl h
  | _ => exact .inr rfl

theorem State.abandonTime_frame (s : State) (f : Fence) : Frame [.recent, .events, .outbox] s (s.abandonTime f) :=
  ((s.closeWhere_frame _ _).mono rfl).trans (frame_abandoned _ _ rfl)

theorem State.judgeGap_frame (s : State) (t : Nat) : Frame [.recent, .events, .outbox] s (s.judgeGap t) := by
  have judged (test : Event → Bool) (cause : Event → CloseCause) : Frame [.recent, .events, .outbox] s
      { s.closeWhere test cause with assoc := { (s.closeWhere test cause).assoc with gapNote := none } } :=
    ((s.closeWhere_frame test cause).mono rfl).trans (frame_notes _ _ _ _)
  unfold State.judgeGap
  cases s.assoc.gapNote with
  | none => exact .refl _ s
  | some note => exact .ite (s.abandonTime_frame _) (judged _ _)

theorem State.associationTriple_frame (s : State) :
    Frame [.feeds, .recent, .events, .outbox] s s.associationTriple := by
  unfold State.associationTriple
  dsimp only
  split
  · exact (((frame_assocFeed s _ rfl).trans ((State.judgeGap_frame _ _).mono rfl)).trans ((State.closeWhere_frame _ _ _).mono rfl)).trans
      (frame_notes _ _ _ _)
  · exact .refl _ s

theorem State.takeAssocSignal_frame (s : State) (h : ps.contains .feeds = true) : Frame ps s s.takeAssocSignal :=
  frame_assocFeed s _ h

theorem State.associationGap_frame (s : State) : Frame [.feeds] s s.associationGap := by
  unfold State.associationGap
  dsimp only
  split
  · exact (s.takeAssocSignal_frame rfl).trans (frame_notes _ _ _ _)
  · exact (s.takeAssocSignal_frame rfl).trans (frame_notes _ _ _ _)
  · exact .refl _ s

theorem State.associationTime_frame (s : State) : Frame [.feeds, .recent, .events, .outbox] s s.associationTime := by
  unfold State.associationTime
  split
  · exact (s.takeAssocSignal_frame rfl).trans ((State.abandonTime_frame _ _).mono rfl)
  · exact .refl _ s

theorem State.associationFlush_frame (s : State) : Frame [.feeds, .recent, .events, .outbox] s s.associationFlush := by
  unfold State.associationFlush
  dsimp only
  split
  · exact ((s.takeAssocSignal_frame rfl).trans ((State.closeWhere_frame _ _ _).mono rfl)).trans (frame_abandoned _ _ rfl)
  · exact .refl _ s

theorem takeEvts_frame (m : InMsg) (s : State) : Frame [.settings, .replies] s (takeEvts m s) := by
  intro p
  cases p with
  | settings | replies => exact .inl rfl
  | _ => exact .inr rfl

end Sys2Proof.Machine
end

section
/-! The footprint of every command's own function: routing, the report queues, the Snippet Store, the link, the arbiter; and the
footprint of every command. -/

namespace Sys2Proof.Machine

variable {ps : List Part}

/-! ## Routing and the report queues (chapter 6) -/

theorem State.routePick_frame (s : State) : Frame [.outbox, .counters] s s.routePick := by
  unfold State.routePick
  split
  · intro p
    cases p with
    | outbox | counters => exact .inl rfl
    | _ => exact .inr rfl
  · exact .refl _ s

/-- A queue replaced leaves what a function reads of every queue, if it leaves that of the one replaced. -/
theorem Four.map_set {α β : Type} (g : α → β) (f : Four α) (i : Fin 4) (a : α) (h : g a = g (f.get i)) :
    (f.set i a).map g = f.map g := by
  apply Four.ext_get
  intro j
  rw [Four.get_map, Four.get_map, Four.get_set]
  split
  · subst j; exact h
  · rfl

/-- A queue replaced by one with the same batch level and hold time; STARVED may be raised. -/
theorem State.putQueue_frame (s : State) (i : Fin 4) (q : Queue) (batch : q.batch = (s.queues.get i).batch)
    (hold : q.hold = (s.queues.get i).hold) (hq : ps.contains .queues = true) (hr : ps.contains .records = true) :
    Frame ps s (s.putQueue i q) := by
  obtain ⟨x, ns, hx, h⟩ := s.putQueue_eq i q
  rw [h]
  intro p
  cases p with
  | queues => exact .inl hq
  | records => exact .inl hr
  | settings =>
    have kept : (x.batch, x.hold) = ((s.queues.get i).batch, (s.queues.get i).hold) := by
      rcases hx with rfl | rfl <;> exact Prod.ext batch hold
    exact .inr (by simp only [Part.same, State.allSettings, Four.map_set (fun q : Queue => (q.batch, q.hold)) s.queues i x kept])
  | _ => exact .inr rfl

/-- A queue replaced by one that has the same records besides. -/
theorem State.putQueue_frame_records (s : State) (i : Fin 4) (q : Queue) (batch : q.batch = (s.queues.get i).batch)
    (hold : q.hold = (s.queues.get i).hold) (records : q.records = (s.queues.get i).records)
    (hq : ps.contains .queues = true) : Frame ps s (s.putQueue i q) := by
  intro p
  cases p with
  | queues => exact .inl hq
  | records =>
    obtain ⟨x, ns, hx, h⟩ := s.putQueue_eq i q
    rw [h]
    have kept : x.records = (s.queues.get i).records := by rcases hx with rfl | rfl <;> exact records
    exact .inr (Four.map_set Queue.records s.queues i x kept)
  | _ => exact .inr ((s.putQueue_frame (ps := [.queues, .records]) i q batch hold rfl rfl).same _ rfl)

/-- A queue replaced by one that has the same records. -/
theorem State.putQueue_frame_settings (s : State) (i : Fin 4) (q : Queue) (records : q.records = (s.queues.get i).records)
    (hq : ps.contains .queues = true) (hs : ps.contains .settings = true) : Frame ps s (s.putQueue i q) := by
  obtain ⟨x, ns, hx, h⟩ := s.putQueue_eq i q
  rw [h]
  intro p
  cases p with
  | queues => exact .inl hq
  | settings => exact .inl hs
  | records =>
    have kept : x.records = (s.queues.get i).records := by rcases hx with rfl | rfl <;> exact records
    exact .inr (Four.map_set Queue.records s.queues i x kept)
  | _ => exact .inr rfl

/-- Queues with the same batch levels and hold times. -/
theorem frame_queues {s : State} {qs : Four Queue}
    (kept : (qs.map fun q => (q.batch, q.hold)) = s.queues.map fun q => (q.batch, q.hold))
    (hq : ps.contains .queues = true) (hr : ps.contains .records = true) : Frame ps s { s with queues := qs } := by
  intro p
  cases p with
  | queues => exact .inl hq
  | records => exact .inl hr
  | settings => exact .inr (by simp only [Part.same, State.allSettings, kept])
  | _ => exact .inr rfl

theorem Queue.settle_levels (q : Queue) : q.settle.batch = q.batch ∧ q.settle.hold = q.hold := by
  rw [Queue.settle_eq]
  exact ⟨rfl, rfl⟩

theorem State.loseOn_frame (s : State) (i : Fin 4) (k : Nat) (hq : ps.contains .queues = true) (hc : ps.contains .counters = true) :
    Frame ps s (s.loseOn i k) := by
  by_cases h : k = 0
  · rw [h]
    exact .refl ps s
  · rw [State.loseOn_eq _ _ _ h]
    intro p
    cases p with
    | queues => exact .inl hq
    | counters => exact .inl hc
    | records => exact .inr (Four.map_set Queue.records s.queues i _ rfl)
    | settings =>
      have kept := Four.map_set (fun q : Queue => (q.batch, q.hold)) s.queues i { s.queues.get i with lossNote := true } rfl
      exact .inr (by simp only [Part.same, State.allSettings, kept])
    | _ => exact .inr rfl

theorem State.freeSlot_frame (s : State) (n : Fin 8) (h : ps.contains .snipSlots = true) : Frame ps s (s.freeSlot n) := by
  intro p
  cases p with
  | snipSlots => exact .inl h
  | _ => exact .inr rfl

theorem State.freeSlots_frame (s : State) (ns : List (Fin 8)) (h : ps.contains .snipSlots = true) :
    Frame ps s (s.freeSlots ns) := Frame.foldl (fun s n => s.freeSlot_frame n h) ns s

theorem State.evictQueue_frame (s : State) (i : Fin 4) (lack : Nat) :
    Frame [.records, .queues, .snipSlots, .counters] s (s.evictQueue i lack) := by
  have shortened (rs : List Record) : Frame [.records, .queues, .snipSlots, .counters] s
      { s with queues := s.queues.set i { s.queues.get i with records := rs } } :=
    frame_queues (Four.map_set _ s.queues i _ rfl) rfl rfl
  unfold State.evictQueue
  dsimp only
  refine .ite (.refl _ s) ?_
  exact (((shortened _).trans (State.freeSlots_frame _ _ rfl)).trans (State.loseOn_frame _ _ _ rfl rfl)).trans
    (State.putQueue_frame _ _ _ (Queue.settle_levels _).1 (Queue.settle_levels _).2 rfl rfl)

theorem State.evictAll_frame (s : State) (is : List (Fin 4)) (lack : Nat) :
    Frame [.records, .queues, .snipSlots, .counters] s (s.evictAll is lack) := by
  induction is generalizing s lack with
  | nil => exact .refl _ s
  | cons i is ih => exact (s.evictQueue_frame i lack).trans (ih _ _)

theorem State.makeRoom_frame {s t : State} {i : Fin 4} {n : Nat} (h : s.makeRoom i n = some t) :
    Frame [.records, .queues, .snipSlots, .counters] s t := by
  rcases s.makeRoom_cases i n with ⟨-, h'⟩ | ⟨-, -, h'⟩ | ⟨-, -, h'⟩ <;> rw [h'] at h <;> cases h
  · exact .refl _ s
  · exact s.evictAll_frame _ _

theorem State.accept_frame (s : State) (i : Fin 4) (rs : List Record) (hq : ps.contains .queues = true)
    (hr : ps.contains .records = true) : Frame ps s (s.accept i rs) := s.putQueue_frame i _ rfl rfl hq hr

theorem State.takeSlot_frame (s : State) (n : Fin 8) (p : Pick) (hs : ps.contains .snipSlots = true)
    (hc : ps.contains .counters = true) : Frame ps s (s.takeSlot n p) := by
  obtain ⟨k, h⟩ := s.takeSlot_eq n p
  rw [h]
  intro p
  cases p with
  | snipSlots => exact .inl hs
  | counters => exact .inl hc
  | _ => exact .inr rfl

theorem State.arriveOne_frame (s : State) (i : Fin 4) (r : Record) :
    Frame [.records, .queues, .snipSlots, .counters] s (s.arriveOne i r) := by
  unfold State.arriveOne
  cases room : s.makeRoom i 1 with
  | none => exact s.loseOn_frame i 1 rfl rfl
  | some u => exact (State.makeRoom_frame room).trans (u.accept_frame i [r] rfl rfl)

theorem State.arriveSnippet_frame {s t : State} {i : Fin 4} {r : PickReport} (h : s.arriveSnippet i r = .next t) :
    Frame [.records, .queues, .snipSlots, .counters] s t := by
  unfold State.arriveSnippet at h
  cases room : s.makeRoom i 2 with
  | none =>
    rw [room] at h
    cases h
    exact s.loseOn_frame i 2 rfl rfl
  | some u =>
    simp only [room] at h
    cases slot : u.snips.lowestFree with
    | none => rw [slot] at h; cases h
    | some n =>
      rw [slot] at h
      cases h
      exact ((State.makeRoom_frame room).trans (u.takeSlot_frame n r.pick rfl rfl)).trans (State.accept_frame _ i _ rfl rfl)

theorem frame_outbox (s : State) (hs : List Handed) (h : ps.contains .outbox = true) : Frame ps s { s with outbox := hs } := by
  intro p
  cases p with
  | outbox => exact .inl h
  | _ => exact .inr rfl

theorem execQueueArrival_frame {s t : State} (h : execQueueArrival s = .next t) :
    Frame [.outbox, .records, .queues, .snipSlots, .counters] s t := by
  unfold execQueueArrival at h
  split at h
  · cases h; exact .refl _ s
  · split at h
    · cases h
      exact (frame_outbox s _ rfl).trans ((State.arriveOne_frame _ _ _).mono rfl)
    · split at h
      · split at h
        · cases h; exact .refl _ s
        · exact (frame_outbox s _ rfl).trans ((State.arriveSnippet_frame h).mono rfl)
      · cases h
        exact (frame_outbox s _ rfl).trans ((State.arriveOne_frame _ _ _).mono rfl)
    · cases h; exact .refl _ s

/-- A tick leaves what is no timer of a queue. -/
theorem Queue.tick_keeps (q : Queue) : q.tick.records = q.records ∧ q.tick.batch = q.batch ∧ q.tick.hold = q.hold := by
  unfold Queue.tick
  split
  · dsimp only
    split <;> exact ⟨rfl, rfl, rfl⟩
  · exact ⟨rfl, rfl, rfl⟩

/-- The queues each replaced by one with the same records, batch level and hold time. -/
theorem frame_queues_map {s : State} {f : Queue → Queue} (keeps : ∀ q : Queue, (f q).records = q.records ∧ (f q).batch = q.batch ∧
    (f q).hold = q.hold) (n : Nat) (h : ps.contains .queues = true) :
    Frame ps s { s with localTime := n, queues := s.queues.map f } := by
  intro p
  cases p with
  | queues => exact .inl h
  | records => exact .inr (by simp only [Part.same, Four.map, (keeps _).1])
  | settings => exact .inr (by simp only [Part.same, State.allSettings, Four.map, (keeps _).2.1, (keeps _).2.2])
  | _ => exact .inr rfl

theorem State.takeExpiry_frame (s : State) (i : Fin 4) : Frame [.queues] s (s.takeExpiry i) := by
  unfold State.takeExpiry
  dsimp only
  exact .ite (s.putQueue_frame_records i _ rfl rfl rfl rfl) (.refl _ s)

theorem takeRout_frame (m : InMsg) (s : State) : Frame [.routes, .replies] s (takeRout m s) := by
  unfold takeRout
  split
  · exact ackSettings_frame _ _ _ s rfl
  · intro p
    cases p with
    | routes | replies => exact .inl rfl
    | _ => exact .inr rfl

theorem takeQset_frame (m : InMsg) (s : State) : Frame [.queues, .settings, .replies] s (takeQset m s) := by
  unfold takeQset
  dsimp only
  split
  · exact ackSettings_frame _ _ _ s rfl
  · split
    · exact s.reply_frame _ rfl
    · rename_i i _
      exact (s.putQueue_frame_settings i ((s.queues.get i).applyQset _) rfl rfl rfl).trans (ackSettings_frame _ _ _ _ rfl)

theorem takeGrnt_frame (m : InMsg) (s : State) : Frame [.queues, .replies] s (takeGrnt m s) := by
  unfold takeGrnt
  split
  · exact s.reply_frame _ rfl
  · rename_i i _
    exact (s.putQueue_frame_records i ((s.queues.get i).grant _) rfl rfl rfl rfl).trans (State.reply_frame _ _ rfl)

theorem takeQrst_frame (m : InMsg) (s : State) : Frame [.records, .queues, .snipSlots, .replies] s (takeQrst m s) := by
  unfold takeQrst
  split
  · exact s.reply_frame _ rfl
  · have emptied (u : State) (i : Fin 4) : Frame [.records, .queues, .snipSlots, .replies] u
        { u with queues := u.queues.set i (u.queues.get i).empty } :=
      frame_queues (Four.map_set _ u.queues i _ rfl) rfl rfl
    have freed (i : Fin 4) (ns : List (Fin 8)) : ({ s.freeSlots ns with queues := s.queues.set i (s.queues.get i).empty } : State) =
        { s.freeSlots ns with queues := (s.freeSlots ns).queues.set i ((s.freeSlots ns).queues.get i).empty } := by
      rw [State.freeSlots_eq]
    dsimp only
    rw [freed]
    exact ((s.freeSlots_frame _ rfl).trans (emptied _ _)).trans (State.reply_frame _ _ rfl)

/-! ## The Snippet Store (chapter 7) -/

theorem frame_snipSlots (s : State) (slots : Eight SnipSlot) (b : Option Nat) (h : ps.contains .snipSlots = true) :
    Frame ps s { s with snips := { s.snips with slots := slots, boundary := b } } := by
  intro p
  cases p with
  | snipSlots => exact .inl h
  | _ => exact .inr rfl

theorem frame_snipFeed (s : State) (f : Feed) (h : ps.contains .feeds = true) :
    Frame ps s { s with snips := { s.snips with feed := f } } := by
  intro p
  cases p with
  | feeds => exact .inl h
  | _ => exact .inr rfl

theorem State.countCut_frame (s : State) (h : ps.contains .counters = true) : Frame ps s s.countCut := frame_counters s _ h

theorem State.offerSlot_frame (s : State) (idx : Nat) (t : Triple) (n : Fin 8) :
    Frame [.snipSlots, .counters] s (s.offerSlot idx t n) := by
  unfold State.offerSlot
  exact .ite (.ite ((frame_snipSlots s _ _ rfl).trans (State.countCut_frame _ rfl)) (frame_snipSlots s _ _ rfl)) (.refl _ s)

theorem State.cutSlot_frame (s : State) (n : Fin 8) : Frame [.snipSlots, .counters] s (s.cutSlot n) := by
  unfold State.cutSlot
  exact .ite ((frame_snipSlots s _ _ rfl).trans (State.countCut_frame _ rfl)) (.refl _ s)

theorem State.snippetTriple_frame (s : State) : Frame [.feeds, .snipSlots, .counters] s s.snippetTriple := by
  unfold State.snippetTriple
  exact .ite ((frame_snipFeed s _ rfl).trans (Frame.foldl (fun s n => (s.offerSlot_frame _ _ n).mono rfl) _ _)) (.refl _ s)

theorem State.snippetSignal_frame (s : State) : Frame [.feeds, .snipSlots, .counters] s s.snippetSignal := by
  unfold State.snippetSignal
  split
  · exact .refl _ s
  · exact ((frame_snipFeed s _ rfl).trans (Frame.foldl (fun s n => (s.cutSlot_frame n).mono rfl) _ _)).trans (frame_snipSlots _ _ _ rfl)

theorem takeSnip_frame (m : InMsg) (s : State) : Frame [.settings, .replies] s (takeSnip m s) := by
  intro p
  cases p with
  | settings | replies => exact .inl rfl
  | _ => exact .inr rfl

/-! ## The link (chapter 8) -/

theorem State.breakMessage_frame (s : State) (hi : ps.contains .inbox = true) (hc : ps.contains .counters = true) :
    Frame ps s s.breakMessage := by
  obtain ⟨inbox, k, h⟩ := s.breakMessage_eq
  rw [h]
  intro p
  cases p with
  | inbox => exact .inl hi
  | counters => exact .inl hc
  | _ => exact .inr rfl

theorem State.framingError_frame (s : State) : Frame [.inbox, .counters] s s.framingError :=
  (frame_counters s _ rfl).trans (State.breakMessage_frame _ rfl rfl)

theorem State.linkOverrun_frame (s : State) (h : ps.contains .counters = true) : Frame ps s s.linkOverrun := frame_counters s _ h

theorem State.opener_frame (s : State) (code : Byte) : Frame [.inbox, .counters] s (s.opener code) := by
  refine (s.breakMessage_frame rfl rfl).trans ?_
  exact .ite (State.linkOverrun_frame _ rfl) (frame_inbox (LinkPort.afterStore_replies _) rfl)

theorem State.dataCharacter_frame (s : State) (b : Byte) : Frame [.inbox, .counters] s (s.dataCharacter b) := by
  unfold State.dataCharacter
  split
  · exact .refl _ s
  · refine .ite ((s.linkOverrun_frame rfl).trans (State.breakMessage_frame _ rfl rfl)) ?_
    rename_i m _
    have stored : Frame [.inbox, .counters] s { s with link := (s.link.setLast (m.take b)).afterStore } :=
      frame_inbox (LinkPort.afterStore_replies _) rfl
    exact stored.trans (frame_counters _ _ rfl)

theorem LinkPort.release_keeps (l : LinkPort) : l.release.inbox = l.inbox ∧ l.release.replies = l.replies :=
  ⟨LinkPort.resume_inbox _, LinkPort.resume_replies _⟩

theorem State.linkCharacter_frame (s : State) (mark : Bool) (b : Byte) (stop : Bool) :
    Frame [.inbox, .counters] s (s.linkCharacter mark b stop) := by
  unfold State.linkCharacter State.takeCharacter
  refine .ite (.refl _ s) (.ite (.ite (.ite ?_ (.ite ?_ (s.opener_frame b))) (s.dataCharacter_frame b)) (.ite ?_ s.framingError_frame))
  · exact frame_link rfl rfl
  · exact frame_link s.link.release_keeps.1 s.link.release_keeps.2
  · exact frame_link rfl rfl

theorem frame_watch (s : State) (w : LineWatch) : Frame ps s { s with link := { s.link with watch := w } } := frame_link rfl rfl

theorem State.lineBreak_frame (s : State) : Frame [.inbox, .counters] s s.lineBreak :=
  .ite (.refl _ s) ((s.breakMessage_frame rfl rfl).trans (frame_watch _ _))

theorem State.returnToMark_frame (s : State) : Frame [.inbox, .counters] s s.returnToMark := by
  unfold State.returnToMark
  dsimp only
  split
  · exact .refl _ s
  · exact s.framingError_frame.trans (frame_watch _ _)
  · exact frame_watch s _

theorem LinkPort.sendFlow_keeps (l : LinkPort) (f : Flow) :
    (l.sendFlow f).inbox = l.inbox ∧ (l.sendFlow f).replies = l.replies := by
  unfold LinkPort.sendFlow
  split <;> exact ⟨rfl, rfl⟩

theorem State.sendFlow_frame (s : State) (f : Flow) : Frame ps s { s with link := s.link.sendFlow f } :=
  frame_link (s.link.sendFlow_keeps f).1 (s.link.sendFlow_keeps f).2

/-! ## The arbiter (R172) -/

theorem State.takeRedy_frame (s : State) : Frame ps s s.takeRedy := by
  unfold State.takeRedy
  split
  · exact (frame_link rfl rfl).trans (State.send_frame _ _ _)
  · exact .refl _ s

theorem State.takeNote_frame (s : State) : Frame ps s s.takeNote := by
  unfold State.takeNote
  split
  · exact (frame_link rfl rfl).trans (State.send_frame _ _ _)
  · exact .refl _ s

theorem State.takeHead_frame (s : State) (i : Fin 4) : Frame [.records, .queues] s (s.takeHead i) :=
  s.putQueue_frame i _ (Queue.settle_levels _).1 (Queue.settle_levels _).2 rfl rfl

theorem State.takeSegment_frame (s : State) (i : Fin 4) (n : Fin 8) (k : Nat) :
    Frame [.records, .queues, .snipSlots] s (s.takeSegment i n k) := by
  unfold State.takeSegment
  dsimp only
  split
  · exact (s.freeSlot_frame n rfl).trans (State.putQueue_frame _ i _ (Queue.settle_levels _).1 (Queue.settle_levels _).2 rfl rfl)
  · exact (frame_snipSlots s _ _ rfl).trans (State.putQueue_frame _ i _ rfl rfl rfl rfl)

/-! ## Every command -/

/-- The parts that a command may change. -/
def footprint : Instr → List Part
  | .sampleCharacter _ => [.feeds, .counters]
  | .conditionTriple => [.ring, .feeds, .counters]
  | .detectorTriple _ => [.feeds, .detectors, .numbers]
  | .confirmation _ => [.detectors]
  | .forcedRelease _ => [.detectors]
  | .warmupEnd _ => [.detectors]
  | .recoveryEnd _ => [.detectors]
  | .detectorDiscontinuity _ => [.feeds, .detectors]
  | .detectorFlush _ => [.feeds, .detectors, .flushing, .replies]
  | .createPrimary _ => [.table, .numbers, .counters]
  | .createSecondary _ => [.table, .numbers, .counters]
  | .createSignature => [.table, .numbers, .counters]
  | .confirm _ => [.table, .numbers]
  | .cancel _ => [.table, .counters]
  | .markLong _ => [.table, .numbers]
  | .onsetTriple => [.feeds, .table, .numbers]
  | .onsetDiscontinuity => [.feeds, .table, .numbers]
  | .onsetFlush => [.feeds, .table, .counters, .flushing, .replies]
  | .signatureTriple => [.feeds, .bankSlots, .counters]
  | .signatureDiscontinuity => [.feeds, .bankSlots]
  | .signatureFlush => [.feeds, .bankSlots, .flushing, .replies]
  | .associatePick => [.recent, .events, .outbox, .counters, .numbers]
  | .associationTriple => [.feeds, .recent, .events, .outbox]
  | .associationGap => [.feeds]
  | .associationTime => [.feeds, .recent, .events, .outbox]
  | .associationFlush => [.feeds, .recent, .events, .outbox, .flushing, .replies]
  | .routePick => [.outbox, .counters]
  | .queueArrival => [.outbox, .records, .queues, .snipSlots, .counters]
  | .localTick => [.queues]
  | .holdTimerExpiry _ => [.queues]
  | .snippetTriple => [.feeds, .snipSlots, .counters]
  | .snippetDiscontinuity => [.feeds, .snipSlots, .counters, .flushing, .replies]
  | .linkCharacter _ _ _ => [.inbox, .counters]
  | .lineBreak => [.inbox, .counters]
  | .lineReturnsToMark => [.inbox, .counters]
  | .peerHold => []
  | .peerGo => []
  | .characterBoundary => []
  | .ownHold => []
  | .ownGo => []
  | .redy => []
  | .note => []
  | .ackn => [.replies]
  | .rfsd => [.replies]
  | .strp => [.replies]
  | .cntp => [.replies]
  | .pick => [.records, .queues]
  | .evnt => [.records, .queues]
  | .segm => [.records, .queues, .snipSlots]
  | .unknownCode => [.inbox, .replies]
  | .flsh => [.inbox, .feeds, .flushing, .replies]
  | .stat => [.inbox, .replies]
  | .cntr => [.inbox, .counters, .queues, .replies]
  | .inpt => [.inbox, .settings, .replies]
  | .run => [.inbox, .replies]
  | .stop => [.inbox, .feeds, .replies]
  | .dets => [.inbox, .detectors, .settings, .replies]
  | .onst => [.inbox, .settings, .replies]
  | .phas => [.inbox, .settings, .replies]
  | .evts => [.inbox, .settings, .replies]
  | .rout => [.inbox, .routes, .replies]
  | .qset => [.inbox, .queues, .settings, .replies]
  | .grnt => [.inbox, .queues, .replies]
  | .qrst => [.inbox, .records, .queues, .snipSlots, .replies]
  | .snip => [.inbox, .settings, .replies]
  | .sigw => [.inbox, .bankSlots, .replies]
  | .sige => [.inbox, .bankSlots, .replies]
  | .sigd => [.inbox, .bankSlots, .replies]
  | .pinReset _ _ => resetParts
  | .resetnLow => resetParts
  | .rstr => resetParts
where
  /-- A reset reaches every part but the queue of commands. -/
  resetParts : List Part :=
    [.ring, .feeds, .detectors, .numbers, .settings, .table, .recent, .events, .outbox, .routes, .records, .queues, .bankSlots,
      .snipSlots, .inbox, .replies, .flushing, .counters]

/-- Two states with the same queue of commands. -/
theorem frame_reset {s t : State} (h : t.pending = s.pending) : Frame footprint.resetParts s t := by
  intro p
  cases p with
  | pending => exact .inr h
  | _ => exact .inl rfl

theorem takeFlsh_frame (m : InMsg) (s : State) : Frame [.feeds, .flushing, .replies] s (takeFlsh m s) := by
  intro p
  cases p with
  | feeds | flushing => exact .inl rfl
  | _ => exact .inr rfl

theorem takeCntr_frame (m : InMsg) (s : State) : Frame [.counters, .queues, .replies] s (takeCntr m s) := by
  intro p
  cases p with
  | counters | queues | replies => exact .inl rfl
  | _ => exact .inr rfl

theorem takeInpt_frame (m : InMsg) (s : State) : Frame [.settings, .replies] s (takeInpt m s) := by
  have applied (fs : List Nat) : Frame [.settings, .replies] s
      { s with port := { s.port with settings := s.port.settings.apply fs } } := by
    intro p
    cases p with
    | settings => exact .inl rfl
    | _ => exact .inr rfl
  exact .ite ((applied _).trans (ackSettings_frame _ _ _ _ rfl)) (s.reply_frame _ rfl)

theorem takeRun_frame (m : InMsg) (s : State) : Frame [.replies] s (takeRun m s) := by
  have hunting : Frame [.replies] s { s with port := { s.port with input := .hunting, lastSeq := none, expected := none } } :=
    frame_port rfl
  exact .ite (hunting.trans (State.reply_frame _ _ rfl)) (s.reply_frame _ rfl)

theorem takeStop_frame (m : InMsg) (s : State) : Frame [.feeds, .replies] s (takeStop m s) := by
  refine Frame.trans ?_ (s.stopInput.reply_frame _ rfl)
  intro p
  unfold State.stopInput
  dsimp only
  split <;> cases p with
  | feeds | replies => exact .inl rfl
  | _ => exact .inr rfl

theorem State.decodeRstr_pending (s : State) : s.decodeRstr.pending = s.pending := by
  unfold State.decodeRstr
  split
  · rfl
  · split
    · split
      · split <;> rfl
      · rfl
    · rfl

/-- What each command may change (the footprints are those of its function, read off the arm of `exec`). -/
theorem exec_frame {c : Instr} {s t : State} (h : exec c s = .next t) : Frame (footprint c) s t := by
  cases c with
  | pinReset => cases h; exact frame_reset rfl
  | resetnLow => cases h; exact frame_reset rfl
  | rstr => exact .of_live h (frame_reset s.decodeRstr_pending)
  | sampleCharacter => exact .of_live h (s.sampleByte_frame _)
  | conditionTriple => exact .of_live h s.conditionNext_frame
  | detectorTriple => exact .of_live h (s.detectorTriple_frame _)
  | confirmation => exact .of_live h (setDet_frame_of_keeps (Detector.confirmEpisode_keeps _))
  | forcedRelease => exact .of_live h (setDet_frame_of_keeps (Detector.forceRelease_keeps _))
  | warmupEnd => exact .of_live h (setDet_frame_of_keeps (Detector.endWarmup_keeps _))
  | recoveryEnd => exact .of_live h (setDet_frame_of_keeps (Detector.endRecovery_keeps _))
  | detectorDiscontinuity => exact .of_live h (s.detectorSignal_frame _ _)
  | detectorFlush d =>
    exact .of_live h (((s.detectorSignal_frame d _).mono rfl).trans (State.finishFlush_frame _ rfl rfl))
  | createPrimary => exact .of_live h (s.takePrimary_frame _)
  | createSecondary => exact .of_live h (s.takeSecondary_frame _)
  | createSignature => exact .of_live h s.takeSignature_frame
  | confirm => exact .of_live h (s.takeConfirm_frame _)
  | cancel => exact .of_live h (s.takeCancel_frame _)
  | markLong => exact .of_live h (s.takeMarkLong_frame _)
  | onsetTriple => exact .of_live h s.onsetTriple_frame
  | onsetDiscontinuity => exact .of_live h s.onsetDiscontinuity_frame
  | onsetFlush => exact .of_live h ((s.onsetFlush_frame.mono rfl).trans (State.finishFlush_frame _ rfl rfl))
  | signatureTriple => exact .of_live h s.signatureTriple_frame
  | signatureDiscontinuity => exact .of_live h (s.bankSignal_frame _)
  | signatureFlush => exact .of_live h (((s.bankSignal_frame _).mono rfl).trans (State.finishFlush_frame _ rfl rfl))
  | associatePick => exact .of_live h s.associatePick_frame
  | associationTriple => exact .of_live h s.associationTriple_frame
  | associationGap => exact .of_live h s.associationGap_frame
  | associationTime => exact .of_live h s.associationTime_frame
  | associationFlush => exact .of_live h ((s.associationFlush_frame.mono rfl).trans (State.finishFlush_frame _ rfl rfl))
  | routePick => exact .of_live h s.routePick_frame
  | queueArrival => exact execQueueArrival_frame h
  | localTick => exact .of_live h (frame_queues_map Queue.tick_keeps _ rfl)
  | holdTimerExpiry n =>
    refine .of_live h ?_
    cases queueOf n with
    | none => exact .refl _ s
    | some i => exact s.takeExpiry_frame i
  | snippetTriple => exact .of_live h s.snippetTriple_frame
  | snippetDiscontinuity => exact .of_live h ((s.snippetSignal_frame.mono rfl).trans (State.finishFlush_frame _ rfl rfl))
  | linkCharacter => exact .of_live h (s.linkCharacter_frame _ _ _)
  | lineBreak => exact .of_live h s.lineBreak_frame
  | lineReturnsToMark => exact .of_live h s.returnToMark_frame
  | peerHold => exact .of_live h (.ite (frame_link rfl rfl) (.refl _ s))
  | peerGo => exact .of_live h (.ite (frame_link s.link.release_keeps.1 s.link.release_keeps.2) (.refl _ s))
  | characterBoundary =>
    exact .of_live h (.ite (frame_link (LinkPort.resume_inbox _) (LinkPort.resume_replies _)) (.refl _ s))
  | ownHold => exact .of_live h (s.sendFlow_frame _)
  | ownGo => exact .of_live h (s.sendFlow_frame _)
  | redy => exact .of_live h s.takeRedy_frame
  | note => exact .of_live h s.takeNote_frame
  | ackn =>
    refine .of_live h ?_
    unfold State.takeAckn
    split
    · exact s.sendReply_frame _ rfl
    · exact .refl _ s
  | rfsd =>
    refine .of_live h ?_
    unfold State.takeRfsd
    split
    · exact s.sendReply_frame _ rfl
    · exact .refl _ s
  | strp =>
    refine .of_live h ?_
    unfold State.takeStrp
    split
    · exact s.sendReply_frame _ rfl
    · exact .refl _ s
  | cntp =>
    refine .of_live h ?_
    unfold State.takeCntp
    split
    · exact s.sendReply_frame _ rfl
    · exact .refl _ s
  | pick =>
    refine .of_live h ?_
    unfold State.takePickRecord
    split
    · exact (s.takeHead_frame _).trans (State.send_frame _ _ _)
    · exact .refl _ s
  | evnt =>
    refine .of_live h ?_
    unfold State.takeEvntRecord
    split
    · exact (s.takeHead_frame _).trans (State.send_frame _ _ _)
    · exact .refl _ s
  | segm =>
    refine .of_live h ?_
    unfold State.takeSegmRecord
    split
    · exact (s.takeSegment_frame _ _ _).trans (State.send_frame _ _ _)
    · exact .refl _ s
  | unknownCode => exact .of_message h fun m s => s.reply_frame (ps := [.replies]) _ rfl
  | flsh => exact .of_message h (frame_action 0 takeFlsh_frame · · rfl)
  | stat => exact .of_message h (frame_action (ps := [.replies]) 0 (fun _ s => s.reply_frame _ rfl) · · rfl)
  | cntr => exact .of_message h (frame_action 1 takeCntr_frame · · rfl)
  | inpt => exact .of_message h takeInpt_frame
  | run => exact .of_message h (frame_action 0 takeRun_frame · · rfl)
  | stop => exact .of_message h (frame_action 0 takeStop_frame · · rfl)
  | dets => exact .of_message h takeDets_frame
  | onst => exact .of_message h takeOnst_frame
  | phas => exact .of_message h takePhas_frame
  | evts => exact .of_message h takeEvts_frame
  | rout => exact .of_message h takeRout_frame
  | qset => exact .of_message h takeQset_frame
  | grnt => exact .of_message h (frame_action 2 takeGrnt_frame · · rfl)
  | qrst => exact .of_message h (frame_action 1 takeQrst_frame · · rfl)
  | snip => exact .of_message h takeSnip_frame
  | sigw => exact .of_message h takeSigw_frame
  | sige => exact .of_message h (frame_action 8 takeSige_frame · · rfl)
  | sigd => exact .of_message h (frame_action 1 takeSigd_frame · · rfl)

/-- A command leaves every part outside its footprint. -/
theorem exec_same {c : Instr} {s t : State} (h : exec c s = .next t) (p : Part) (outside : (footprint c).contains p = false) :
    p.same s t := (exec_frame h).same p outside

/-- Settles O2: no command's footprint holds the queue of commands. -/
theorem everyCommandKeepsTheQueue : Obligations.EveryCommandKeepsTheQueue := fun c _ _ h =>
  exec_same h .pending (by cases c <;> rfl)

end Sys2Proof.Machine
end

section
/-! Invariants and footprints: what rests on parts that a command leaves is kept by it, so that each invariant is proved for the
commands that reach its parts, and for the resets. -/

namespace Sys2Proof.Machine

/-! ## Resets -/

/-- A reset leaves every part at its reset value, and the queue of commands. -/
def State.isReset (t : State) : Prop := Frame [.pending] State.reset t

/-- The reset values, whatever the pins, local time, and the line say. -/
theorem isReset_of_line (cs : List Instr) (low a b : Bool) (n : Nat) {l : LinkPort} (inbox : l.inbox = []) (replies : l.replies = []) :
    ({ State.reset with pending := cs, resetLow := low, rate1 := a, rate0 := b, localTime := n, link := l } : State).isReset := by
  intro p
  cases p with
  | pending => exact .inl rfl
  | inbox => exact .inr inbox
  | replies => exact .inr replies
  | _ => exact .inr rfl

/-- RSTR does nothing, is refused on a free reply place, or resets the part (R162, R165, R179). -/
theorem State.decodeRstr_cases (s : State) : s.decodeRstr = s ∨
    (∃ m, s.oldestMessage = some m ∧ s.link.replies.length < 8 ∧
      s.decodeRstr = s.popMessage.reply (.rfsd m.code .short)) ∨ s.decodeRstr = s.commandReset := by
  unfold State.decodeRstr
  cases oldest : s.oldestMessage with
  | none => exact .inl rfl
  | some m =>
    dsimp only
    split
    · split
      · split
        · rename_i room
          exact .inr (.inl ⟨m, rfl, of_decide_eq_true room, rfl⟩)
        · exact .inl rfl
      · exact .inr (.inr rfl)
    · exact .inl rfl

/-- A message in the decoder's hands, and no FLSH. -/
theorem State.oldestMessage_some {s : State} {m : InMsg} (h : s.oldestMessage = some m) :
    s.link.inbox.head? = some m ∧ m.status ≠ .inProgress ∧ s.flushing = false := by
  unfold State.oldestMessage at h
  split at h
  · cases h
  · rename_i inbox
    split at h
    · cases h
    · rename_i ready
      cases h
      simp only [Bool.or_eq_true, beq_iff_eq, not_or, Bool.not_eq_true] at ready
      exact ⟨by rw [inbox]; rfl, ready.1, ready.2⟩

/-- The commands that can reset the part. -/
def isResetCommand : Instr → Bool
  | .pinReset _ _ => true
  | .resetnLow => true
  | .rstr => true
  | _ => false

/-- A command that can reset the part resets it, or leaves it but for a message refused. -/
theorem exec_reset {c : Instr} {s t : State} (hc : isResetCommand c = true) (h : exec c s = .next t) :
    t.isReset ∨ t = s ∨
      ∃ m, s.oldestMessage = some m ∧ s.link.replies.length < 8 ∧ t = s.popMessage.reply (.rfsd m.code .short) := by
  cases c with
  | pinReset a b => cases h; exact .inl (isReset_of_line _ _ _ _ _ rfl rfl)
  | resetnLow => cases h; exact .inl (isReset_of_line _ _ _ _ _ rfl rfl)
  | rstr =>
    cases h
    rcases s.live_cases State.decodeRstr with h | h
    · exact .inr (.inl h)
    · rcases s.decodeRstr_cases with k | ⟨m, hm, room, k⟩ | k
      · exact .inr (.inl (h.trans k))
      · exact .inr (.inr ⟨m, hm, room, h.trans k⟩)
      · exact .inl (h.trans k ▸ isReset_of_line _ _ _ _ _ rfl rfl)
  | _ => cases hc

/-! ## Invariants -/

/-- `P` rests on the parts listed alone. -/
def RestsOn (P : State → Prop) (ps : List Part) : Prop := ∀ s t : State, (∀ p : Part, ps.contains p = true → p.same s t) → P s → P t

/-- A command reaches one of the parts listed. -/
def reaches (c : Instr) (ps : List Part) : Bool := ps.any fun p => (footprint c).contains p

theorem RestsOn.of_frame {P : State → Prop} {ps qs : List Part} (h : RestsOn P ps) {s t : State} (k : Frame qs s t)
    (apart : ps.all (fun p => !qs.contains p) = true) (hs : P s) : P t :=
  h s t (fun p hp => k.same p (by simpa using List.all_eq_true.mp apart p (List.contains_iff_mem.mp hp))) hs

/-- What rests on other parts rests on none of a change of the queue of commands. -/
theorem apart_singleton {ps : List Part} (h : ps.contains .pending = false) :
    (ps.all fun p => !List.contains [Part.pending] p) = true := by
  refine List.all_eq_true.mpr fun p hp => ?_
  have other : p ≠ .pending := by
    rintro rfl
    simp [hp] at h
  simpa using other

/-- An invariant is kept by every command when it holds at reset and the commands that reach its parts keep it (for the message
that RSTR refuses, it is asked of a message taken and a reply placed). -/
theorem exec_keeps {P : State → Prop} {ps : List Part} (rests : RestsOn P ps) (queue : ps.contains .pending = false) (atReset : P State.reset)
    (refused : ∀ (s : State) (m : InMsg), P s → s.oldestMessage = some m → s.link.replies.length < 8 →
      P (s.popMessage.reply (.rfsd m.code .short)))
    (reached : ∀ (c : Instr) (s t : State), isResetCommand c = false → reaches c ps = true → P s → exec c s = .next t → P t)
    (c : Instr) (s t : State) (hs : P s) (h : exec c s = .next t) : P t := by
  cases reset : isResetCommand c with
  | true =>
    rcases exec_reset reset h with h | rfl | ⟨m, hm, room, rfl⟩
    · exact rests.of_frame h (apart_singleton queue) atReset
    · exact hs
    · exact refused s m hs hm room
  | false =>
    cases touched : reaches c ps with
    | true => exact reached c s t reset touched hs h
    | false =>
      refine rests s t (fun p hp => exec_same h p ?_) hs
      simpa using List.any_eq_false.mp touched p (List.contains_iff_mem.mp hp)

/-- An invariant that rests on neither the inbound buffer nor the replies stands when RSTR is refused. -/
theorem RestsOn.refused {P : State → Prop} {ps : List Part} (h : RestsOn P ps) (inbox : ps.contains .inbox = false)
    (replies : ps.contains .replies = false) (s : State) (m : InMsg) (hs : P s) (_ : s.oldestMessage = some m)
    (_ : s.link.replies.length < 8) : P (s.popMessage.reply (.rfsd m.code .short)) := by
  refine h.of_frame (qs := [.inbox, .replies]) ((s.popMessage_frame rfl).trans (State.reply_frame _ _ rfl)) ?_ hs
  refine List.all_eq_true.mpr fun p hp => ?_
  have notInbox : p ≠ .inbox := by
    rintro rfl
    simp [hp] at inbox
  have notReplies : p ≠ .replies := by
    rintro rfl
    simp [hp] at replies
  simp [notInbox, notReplies]

/-- What every command keeps every step keeps. -/
theorem step_keeps {P : State → Prop} {ps : List Part} (rests : RestsOn P ps) (queue : ps.contains .pending = false)
    (each : ∀ (c : Instr) (s t : State), P s → exec c s = .next t → P t) {s t : State} (hs : P s) (h : step s = .next t) : P t := by
  unfold step at h
  split at h
  · cases h; exact hs
  · rename_i c cs _
    have popped : Frame [.pending] s { s with pending := cs } := by
      intro p
      cases p with
      | pending => exact .inl rfl
      | _ => exact .inr rfl
    exact each c _ t (rests.of_frame popped (apart_singleton queue) hs) h

/-- What every message that acts keeps, and what a message taken keeps, a message command keeps. -/
theorem keeps_message {P : State → Prop} {wanted : InMsg → Bool} {owners : InMsg → State → Bool} {take : InMsg → State → State}
    {s t : State} (hs : P s) (h : (Host.Outcome.next (s.live fun s => s.decode wanted owners take) : Answer) = .next t)
    (each : ∀ m, s.link.inbox.head? = some m → s.flushing = false → owners m s = true → s.link.replies.length < 8 →
      P (take m s.popMessage)) : P t := by
  cases h
  rcases s.live_cases (fun s => s.decode wanted owners take) with h | h <;> rw [h]
  · exact hs
  · rcases s.decode_cases wanted owners take with h | ⟨m, head, -, flushing, -, owned, room, h⟩ <;> rw [h]
    · exact hs
    · exact each m head flushing owned room

/-- What a command's function keeps the command keeps. -/
theorem keeps_live {P : State → Prop} {f : State → State} {s t : State} (hs : P s)
    (h : (Host.Outcome.next (s.live f) : Answer) = .next t) (k : P (f s)) : P t := by
  cases h
  rcases s.live_cases f with h | h <;> rw [h] <;> assumption

end Sys2Proof.Machine
end

section
/-! Conditioned values, levels and ratios stay in range (R20, R26, R27). -/

namespace Sys2Proof.Machine

/-! ## Detectors -/

theorem levelRatio_le (short long lmin : Nat) : levelRatio short long lmin ≤ 4095 := min_le_left _ _

theorem Detector.update_levels {x : Detector} {e : Nat} (h : x.levelsBounded) (he : e ≤ 2 ^ 46) :
    (x.update e).levelsBounded := by
  obtain ⟨short, long, -⟩ := h
  exact ⟨levelStep_le short he, levelStep_le long he, levelRatio_le _ _ _⟩

theorem Detector.updateShort_levels {x : Detector} {e : Nat} (h : x.levelsBounded) (he : e ≤ 2 ^ 46) :
    (x.updateShort e).levelsBounded := by
  obtain ⟨short, long, -⟩ := h
  exact ⟨levelStep_le short he, long, levelRatio_le _ _ _⟩

theorem Detector.secondaryTest_levels {x : Detector} (h : x.levelsBounded) (ep : Episode) (at_ : Ref) :
    (x.secondaryTest ep at_).levelsBounded := by
  obtain ⟨e, rs, eq⟩ := x.secondaryTest_eq ep at_
  rw [eq]
  exact h

theorem Detector.warmupTriple_levels {x : Detector} {e : Nat} (h : x.levelsBounded) (he : e ≤ 2 ^ 46) :
    (x.warmupTriple e).levelsBounded := by
  unfold Detector.warmupTriple
  dsimp only
  split
  · exact ⟨he, he, levelRatio_le _ _ _⟩
  · exact Detector.update_levels h he

theorem Detector.quietTriple_levels {x : Detector} {e : Nat} (h : x.levelsBounded) (at_ : Ref) (he : e ≤ 2 ^ 46) :
    (x.quietTriple at_ e).levelsBounded := by
  unfold Detector.quietTriple
  dsimp only
  split <;> exact Detector.update_levels h he

theorem Detector.triggeredTriple_levels {x : Detector} {e : Nat} (h : x.levelsBounded) (ep : Episode) (at_ : Ref)
    (he : e ≤ 2 ^ 46) : (x.triggeredTriple ep at_ e).levelsBounded := by
  have updated : (x.updateShort e).levelsBounded := Detector.updateShort_levels h he
  unfold Detector.triggeredTriple
  dsimp only
  split
  · exact updated
  · split
    · exact updated
    · split
      · exact updated
      · exact Detector.secondaryTest_levels updated _ _

/-- A triple treated, whatever the detector's state. -/
theorem Detector.treat_levels {x : Detector} {e : Nat} (h : x.levelsBounded) (at_ : Ref) (he : e ≤ 2 ^ 46) :
    (x.treat at_ e).levelsBounded := by
  unfold Detector.treat
  split
  · exact h
  · exact Detector.warmupTriple_levels h he
  · exact Detector.quietTriple_levels h at_ he
  · split
    · exact Detector.triggeredTriple_levels h _ at_ he
    · exact h
  · exact Detector.update_levels h he

theorem Detector.confirmEpisode_levels {x : Detector} (h : x.levelsBounded) : x.confirmEpisode.levelsBounded := by
  unfold Detector.confirmEpisode
  split
  · exact Detector.secondaryTest_levels (x := { x with due := none, requests := _ }) h _ _
  · exact h

/-- The forced release sets the long level to the short one. -/
theorem Detector.forceRelease_levels {x : Detector} (h : x.levelsBounded) : x.forceRelease.levelsBounded := by
  obtain ⟨short, long, ratio⟩ := h
  unfold Detector.forceRelease
  split
  · exact ⟨short, short, ratio⟩
  · exact ⟨short, long, ratio⟩

theorem Detector.endWarmup_levels {x : Detector} (h : x.levelsBounded) : x.endWarmup.levelsBounded := by
  unfold Detector.endWarmup
  split <;> exact h

theorem Detector.endRecovery_levels {x : Detector} (h : x.levelsBounded) : x.endRecovery.levelsBounded := by
  unfold Detector.endRecovery
  split <;> exact h

theorem Detector.warm_levels {x : Detector} (h : x.levelsBounded) : x.warm.levelsBounded := ⟨h.1, h.2.1, Nat.zero_le _⟩

theorem Detector.interrupt_levels {x : Detector} (h : x.levelsBounded) : x.interrupt.levelsBounded := by
  unfold Detector.interrupt
  split
  · exact h
  · exact Detector.warm_levels (x := { x with feed := _ }) h

/-- An episode ended leaves what is no episode and no request. -/
theorem Detector.endEpisode_eq (x : Detector) : ∃ ep rs, x.endEpisode = { x with episode := ep, requests := rs } := by
  unfold Detector.endEpisode
  split
  · exact ⟨_, _, rfl⟩
  · exact ⟨x.episode, x.requests, rfl⟩

theorem Detector.endEpisode_levels {x : Detector} (h : x.levelsBounded) : x.endEpisode.levelsBounded := by
  obtain ⟨ep, rs, eq⟩ := x.endEpisode_eq
  rw [eq]
  exact h

theorem Detector.disable_levels {x : Detector} (h : x.levelsBounded) : x.disable.levelsBounded := by
  obtain ⟨short, long, ratio⟩ := Detector.endEpisode_levels h
  unfold Detector.disable
  split
  · exact h
  · exact ⟨short, long, Nat.zero_le _⟩

theorem Detector.takeDets_levels {x : Detector} (h : x.levelsBounded) (fs : List Nat) : (x.takeDets fs).levelsBounded := by
  have stored : ({ x with settings := (x.settings.store fs).pairs } : Detector).levelsBounded := h
  unfold Detector.takeDets Detector.detsEffect
  split
  · exact Detector.disable_levels stored
  · split
    · split
      · exact Detector.warm_levels stored
      · exact stored
    · split
      · exact Detector.warm_levels (Detector.endEpisode_levels stored)
      · exact stored

/-! ## The whole part -/

/-- Both detectors' levels, with one detector replaced. -/
theorem State.levelsBounded_setDet {s : State} (h : s.levelsBounded) (d : Det) {x : Detector}
    (hx : (s.det d).levelsBounded → x.levelsBounded) : (s.setDet d x).levelsBounded := by
  obtain ⟨ring, v, h⟩ := h
  cases d with
  | v => exact ⟨ring, hx v, h⟩
  | h => exact ⟨ring, v, hx h⟩

theorem State.levelsBounded_restsOn : RestsOn State.levelsBounded [.ring, .detectors] := by
  rintro s t same ⟨ring, v, h⟩
  have sameRing : t.ring = s.ring := same .ring rfl
  have sameWork : (t.detV.work, t.detH.work) = (s.detV.work, s.detH.work) := same .detectors rfl
  simp only [Prod.mk.injEq, Detector.work] at sameWork
  obtain ⟨⟨-, shortV, longV, ratioV, -⟩, -, shortH, longH, ratioH, -⟩ := sameWork
  refine ⟨sameRing ▸ ring, ?_, ?_⟩
  · unfold Detector.levelsBounded
    rw [shortV, longV, ratioV]
    exact v
  · unfold Detector.levelsBounded
    rw [shortH, longH, ratioH]
    exact h

/-- The conditioned values of a triple written are counts: 0, or saturated differences (R20). -/
theorem conditionTriple_isCount (p : InputSettings) (m : Option (ZNE Int)) (x : PortTriple) (disc : Bool) :
    isCount (conditionTriple p m x disc).cond.z ∧ isCount (conditionTriple p m x disc).cond.n ∧
      isCount (conditionTriple p m x disc).cond.e := by
  have zero : isCount 0 := ⟨by decide, by decide⟩
  unfold conditionTriple
  dsimp only
  split
  · exact ⟨sat24_isCount _, sat24_isCount _, sat24_isCount _⟩
  · exact ⟨zero, zero, zero⟩

theorem Ring.write_condBounded {r : Ring} {t : Triple} (h : r.condBounded)
    (ht : isCount t.cond.z ∧ isCount t.cond.n ∧ isCount t.cond.e) : (r.write t).condBounded := by
  intro u hu
  rcases List.mem_cons.mp (List.mem_of_mem_take hu) with rfl | held
  · exact ht
  · exact h u held

/-- The Conditioner's step leaves the ring, or writes the triple at the head of the delivering buffer. -/
theorem State.conditionNext_ring (s : State) : s.conditionNext = s ∨
    ∃ t ts, s.port.delivering = t :: ts ∧ s.writeReady = true ∧ s.conditionNext = (s.handOn t ts).exchange := by
  unfold State.conditionNext
  cases s.port.delivering with
  | nil => exact .inl rfl
  | cons t ts =>
    dsimp only
    split
    · rename_i ready
      exact .inr ⟨t, ts, rfl, ready, rfl⟩
    · exact .inl rfl

theorem State.levelsBounded_conditionNext {s : State} (h : s.levelsBounded) : s.conditionNext.levelsBounded := by
  obtain ⟨ring, v, hh⟩ := h
  rcases s.conditionNext_ring with eq | ⟨t, ts, -, -, eq⟩ <;> rw [eq]
  · exact ⟨ring, v, hh⟩
  · refine State.levelsBounded_restsOn.of_frame (State.exchange_frame _) rfl ?_
    exact ⟨Ring.write_condBounded ring (conditionTriple_isCount _ _ _ _), v, hh⟩

theorem State.levelsBounded_detectorTriple {s : State} (h : s.levelsBounded) (d : Det) :
    (s.detectorTriple d).levelsBounded := by
  unfold State.detectorTriple
  dsimp only
  split
  · refine s.levelsBounded_setDet h d fun hd => ?_
    obtain ⟨z, n, e⟩ := Ring.read_isCount h.1 (s.det d).feed.taken
    exact Detector.treat_levels (x := { s.det d with feed := (s.det d).feed.takeTriple }) hd _ (Triple.energy_le z n e d)
  · exact h

theorem State.levelsBounded_detectorSignal {s : State} (h : s.levelsBounded) (d : Det) (want : Cause → Bool) :
    (s.detectorSignal d want).levelsBounded := by
  unfold State.detectorSignal
  dsimp only
  split
  · exact h
  · split
    · exact s.levelsBounded_setDet h d Detector.interrupt_levels
    · exact h

theorem State.levelsBounded_takeDets {s : State} (h : s.levelsBounded) (m : InMsg) : (takeDets m s).levelsBounded := by
  obtain ⟨ring, v, hh⟩ := h
  refine State.levelsBounded_restsOn.of_frame (qs := [.replies]) (ackSettings_frame m _ _ _ rfl) rfl ⟨ring, ?_, ?_⟩
  · dsimp only
    split
    · exact Detector.takeDets_levels v _
    · exact v
  · dsimp only
    split
    · exact Detector.takeDets_levels hh _
    · exact hh

theorem State.levelsBounded_reset : State.reset.levelsBounded :=
  ⟨fun _ h => absurd h List.not_mem_nil, ⟨by decide, by decide, by decide⟩, by decide, by decide, by decide⟩

theorem State.levelsBounded_exec (c : Instr) (s t : State) : s.levelsBounded → exec c s = .next t → t.levelsBounded := by
  refine exec_keeps State.levelsBounded_restsOn rfl State.levelsBounded_reset
    (State.levelsBounded_restsOn.refused rfl rfl) ?_ c s t
  intro c s t _ touched hs h
  cases c with
  | conditionTriple => exact keeps_live hs h (State.levelsBounded_conditionNext hs)
  | detectorTriple d => exact keeps_live hs h (State.levelsBounded_detectorTriple hs d)
  | confirmation d => exact keeps_live hs h (s.levelsBounded_setDet hs d Detector.confirmEpisode_levels)
  | forcedRelease d => exact keeps_live hs h (s.levelsBounded_setDet hs d Detector.forceRelease_levels)
  | warmupEnd d => exact keeps_live hs h (s.levelsBounded_setDet hs d Detector.endWarmup_levels)
  | recoveryEnd d => exact keeps_live hs h (s.levelsBounded_setDet hs d Detector.endRecovery_levels)
  | detectorDiscontinuity d => exact keeps_live hs h (State.levelsBounded_detectorSignal hs d _)
  | detectorFlush d =>
    exact keeps_live hs h (State.levelsBounded_restsOn.of_frame (qs := [.flushing, .replies]) (State.finishFlush_frame _ rfl rfl)
      rfl (State.levelsBounded_detectorSignal hs d _))
  | dets =>
    refine keeps_message hs h fun m _ _ _ _ => State.levelsBounded_takeDets ?_ m
    exact State.levelsBounded_restsOn.of_frame (qs := [.inbox]) (s.popMessage_frame rfl) rfl hs
  | pinReset | resetnLow | rstr => contradiction
  | _ => cases touched

/-- Settles O56: the ring's counts bound every energy read, a lost triple's too, and a level stays between its old value and an
energy; no command outside the Conditioner and the detectors reaches either. -/
theorem stepsKeepLevelsInRange : Obligations.StepsKeepLevelsInRange := fun _ _ hs h =>
  step_keeps State.levelsBounded_restsOn rfl State.levelsBounded_exec hs h

end Sys2Proof.Machine
end

section
/-! The ring, its readers, and their signals (R17, R22, R180). -/

namespace Sys2Proof.Machine

/-! ## What holds of every reader -/

/-- The six readers of the ring. -/
inductive Reader where
  | det (d : Det)
  | onset
  | bank
  | assoc
  | snips

/-- The feed of a reader. -/
def State.feedOf (s : State) : Reader → Feed
  | .det d => (s.det d).feed
  | .onset => s.onset.feed
  | .bank => s.bank.feed
  | .assoc => s.assoc.feed
  | .snips => s.snips.feed

/-- The feeds are those of the readers. -/
theorem State.forall_feeds_iff (s : State) (P : Feed → Prop) : (∀ f ∈ s.feeds, P f) ↔ ∀ r, P (s.feedOf r) := by
  simp only [State.feeds, List.forall_mem_cons, List.not_mem_nil, false_imp_iff, implies_true, and_true]
  constructor
  · rintro ⟨v, h, o, b, a, n⟩ r
    match r with
    | .det .v => exact v
    | .det .h => exact h
    | .onset => exact o
    | .bank => exact b
    | .assoc => exact a
    | .snips => exact n
  · exact fun h => ⟨h (.det .v), h (.det .h), h .onset, h .bank, h .assoc, h .snips⟩

theorem State.exists_feeds_iff (s : State) (P : Feed → Prop) : (∃ f ∈ s.feeds, P f) ↔ ∃ r, P (s.feedOf r) :=
  not_iff_not.mp (by simpa using s.forall_feeds_iff fun f => ¬P f)

/-- A property of a reader's feed under the number of triples written that writing, signals raised, the taking of triples, and
the taking of signals of the causes allowed keep. -/
structure FeedInvariant (allowed : Cause → Bool) (Q : Reader → Feed → Nat → Prop) : Prop where
  raise : ∀ {r f w} (c : Cause), Q r f w → Q r (f.raise c w) w
  triple : ∀ {r f w}, f.taken < w → (∀ g, f.signals.head? = some g → f.taken < g.after) → Q r f w → Q r f.takeTriple w
  signal : ∀ {r f w c}, f.signalReady = some c → allowed c = true → Q r f w → Q r f.takeSignal w
  write : ∀ {r f w}, w < f.taken + 4096 → Q r f w → Q r f (w + 1)

/-- The property holds of every reader. -/
def State.everyFeed (Q : Reader → Feed → Nat → Prop) (s : State) : Prop := ∀ r, Q r (s.feedOf r) s.ring.written

theorem State.everyFeed_restsOn (Q : Reader → Feed → Nat → Prop) : RestsOn (State.everyFeed Q) [.ring, .feeds] := by
  intro s t same hs r
  have ring : t.ring = s.ring := same .ring rfl
  have feeds : t.feeds = s.feeds := same .feeds rfl
  simp only [State.feeds, List.cons.injEq, and_true] at feeds
  obtain ⟨v, h, o, b, a, n⟩ := feeds
  have feed : t.feedOf r = s.feedOf r := by
    match r with
    | .det .v => exact v
    | .det .h => exact h
    | .onset => exact o
    | .bank => exact b
    | .assoc => exact a
    | .snips => exact n
  rw [ring, feed]
  exact hs r

section Commands

variable {allowed : Cause → Bool} {Q : Reader → Feed → Nat → Prop} {s : State}

theorem State.everyFeed_setDet (hs : s.everyFeed Q) (d : Det) {x : Detector} (hx : Q (.det d) x.feed s.ring.written) :
    (s.setDet d x).everyFeed Q := by
  intro r
  rw [State.setDet_ring]
  match r with
  | .det e =>
    by_cases same : e = d
    · subst same
      simpa only [State.feedOf, State.setDet_det_self] using hx
    · simpa only [State.feedOf, State.setDet_det_ne s x same] using hs (.det e)
  | .onset => simpa only [State.feedOf, State.setDet_onset] using hs .onset
  | .bank => simpa only [State.feedOf, State.setDet_bank] using hs .bank
  | .assoc => simpa only [State.feedOf, State.setDet_assoc] using hs .assoc
  | .snips => simpa only [State.feedOf, State.setDet_snips] using hs .snips

theorem State.everyFeed_onset (hs : s.everyFeed Q) {o : OnsetUnit} (ho : Q .onset o.feed s.ring.written) :
    ({ s with onset := o } : State).everyFeed Q
  | .onset => ho
  | .det .v => hs (.det .v)
  | .det .h => hs (.det .h)
  | .bank => hs .bank
  | .assoc => hs .assoc
  | .snips => hs .snips

theorem State.everyFeed_bank (hs : s.everyFeed Q) {b : SignatureBank} (hb : Q .bank b.feed s.ring.written) :
    ({ s with bank := b } : State).everyFeed Q
  | .bank => hb
  | .det .v => hs (.det .v)
  | .det .h => hs (.det .h)
  | .onset => hs .onset
  | .assoc => hs .assoc
  | .snips => hs .snips

theorem State.everyFeed_assoc (hs : s.everyFeed Q) {a : AssociationUnit} (ha : Q .assoc a.feed s.ring.written) :
    ({ s with assoc := a } : State).everyFeed Q
  | .assoc => ha
  | .det .v => hs (.det .v)
  | .det .h => hs (.det .h)
  | .onset => hs .onset
  | .bank => hs .bank
  | .snips => hs .snips

theorem State.everyFeed_snips (hs : s.everyFeed Q) {n : SnippetStore} (hn : Q .snips n.feed s.ring.written) :
    ({ s with snips := n } : State).everyFeed Q
  | .snips => hn
  | .det .v => hs (.det .v)
  | .det .h => hs (.det .h)
  | .onset => hs .onset
  | .bank => hs .bank
  | .assoc => hs .assoc

variable (inv : FeedInvariant allowed Q)

include inv

theorem State.everyFeed_raiseSignal (hs : s.everyFeed Q) (c : Cause) : (s.raiseSignal c).everyFeed Q := by
  intro r
  match r with
  | .det .v => exact inv.raise c (hs (.det .v))
  | .det .h => exact inv.raise c (hs (.det .h))
  | .onset => exact inv.raise c (hs .onset)
  | .bank => exact inv.raise c (hs .bank)
  | .assoc => exact inv.raise c (hs .assoc)
  | .snips => exact inv.raise c (hs .snips)

/-- A signal raised between changes that reach neither ring nor feeds. -/
theorem State.everyFeed_raised {t : State} (hs : s.everyFeed Q) (h : Frame [.counters] s t) (c : Cause) (b : Block) :
    ((t.raiseSignal c).deliver b [] true).everyFeed Q :=
  (State.everyFeed_restsOn Q).of_frame (qs := []) (State.deliver_frame _ b [] true) rfl
    (State.everyFeed_raiseSignal inv ((State.everyFeed_restsOn Q).of_frame h rfl hs) c)

theorem State.everyFeed_judge (hs : s.everyFeed Q) (b : Block) : (s.judge b).everyFeed Q := by
  have quiet {t : State} (h : Frame [.counters] s t) : t.everyFeed Q := (State.everyFeed_restsOn Q).of_frame h rfl hs
  unfold State.judge
  dsimp only
  split
  · split
    · split
      · exact quiet (s.deliver_frame b [] false)
      · exact State.everyFeed_raised inv hs ((frame_counters s _ rfl).trans (State.notify_frame _ .inputLost)) .time b
    · split
      · exact quiet ((frame_counters s (s.counters.filled _) rfl).trans (State.deliver_frame _ b _ false))
      · exact State.everyFeed_raised inv hs ((frame_counters s _ rfl).trans (State.notify_frame _ .inputLost)) .gap b
  · have running : Frame [.counters] s { s with port := { s.port with input := .running } } := frame_port rfl
    exact quiet ((running.trans (State.notify_frame _ .inputFound)).trans (State.deliver_frame _ b [] true))

theorem State.everyFeed_takeBlock (hs : s.everyFeed Q) (b : Block) : (s.takeBlock b).everyFeed Q := by
  have quiet {t : State} (h : Frame [.counters] s t) : t.everyFeed Q := (State.everyFeed_restsOn Q).of_frame h rfl hs
  have good : s.countGood.everyFeed Q := quiet (frame_counters s _ rfl)
  have offered : (s.countGood.offerBlock b).everyFeed Q := by
    unfold State.offerBlock
    split
    · exact State.everyFeed_judge inv good b
    · exact quiet ((frame_counters s _ rfl).trans (frame_port rfl))
  unfold State.takeBlock
  split
  · exact quiet (frame_counters s _ rfl)
  · split
    · exact good
    · exact offered
    · split
      · exact quiet (frame_counters s _ rfl)
      · exact offered

theorem State.everyFeed_sampleByte (hs : s.everyFeed Q) (b : Byte) : (s.sampleByte b).everyFeed Q := by
  have quiet {t : State} (h : Frame [.counters] s t) : t.everyFeed Q := (State.everyFeed_restsOn Q).of_frame h rfl hs
  unfold State.sampleByte State.frameByte State.endFrame
  split
  · exact hs
  · split
    · split <;> exact quiet (frame_port rfl)
    · split
      · exact quiet (s.search_frame.trans (frame_counters _ _ rfl))
      · split
        · dsimp only
          split
          · exact State.everyFeed_takeBlock inv (quiet s.search_frame) _
          · exact quiet (s.search_frame.trans (frame_counters _ _ rfl))
        · exact quiet (frame_port rfl)

theorem State.everyFeed_exchange (hs : s.everyFeed Q) : s.exchange.everyFeed Q := by
  unfold State.exchange
  split
  · refine State.everyFeed_judge inv ?_ _
    exact (State.everyFeed_restsOn Q).of_frame (qs := []) (frame_port (s := s) rfl) rfl hs
  · exact hs

/-- A triple is written only when every reader has left its position (R22). -/
theorem State.everyFeed_conditionNext (hs : s.everyFeed Q) : s.conditionNext.everyFeed Q := by
  rcases s.conditionNext_ring with eq | ⟨t, ts, -, ready, eq⟩ <;> rw [eq]
  · exact hs
  · have room := (s.forall_feeds_iff _).mp fun f hf => of_decide_eq_true (List.all_eq_true.mp ready f hf)
    exact State.everyFeed_exchange inv fun
      | .det .v => inv.write (room (.det .v)) (hs (.det .v))
      | .det .h => inv.write (room (.det .h)) (hs (.det .h))
      | .onset => inv.write (room .onset) (hs .onset)
      | .bank => inv.write (room .bank) (hs .bank)
      | .assoc => inv.write (room .assoc) (hs .assoc)
      | .snips => inv.write (room .snips) (hs .snips)

theorem State.everyFeed_detectorTriple (hs : s.everyFeed Q) (d : Det) : (s.detectorTriple d).everyFeed Q := by
  unfold State.detectorTriple
  dsimp only
  split
  · rename_i ready
    obtain ⟨written, order⟩ := (Feed.tripleReady_iff _ _).mp (Bool.and_eq_true_iff.mp ready).1
    refine State.everyFeed_setDet hs d ?_
    rw [(Detector.treat_keeps _ _ _).2]
    exact inv.triple written order (hs (.det d))
  · exact hs

theorem State.everyFeed_detectorSignal (hs : s.everyFeed Q) (d : Det) {want : Cause → Bool}
    (may : ∀ c, want c = true → allowed c = true) : (s.detectorSignal d want).everyFeed Q := by
  unfold State.detectorSignal
  dsimp only
  split
  · exact hs
  · rename_i c ready
    split
    · rename_i wanted
      refine State.everyFeed_setDet hs d ?_
      rw [(Detector.interrupt_keeps _).2.1]
      exact inv.signal ready (may c (Bool.and_eq_true_iff.mp wanted).1) (hs (.det d))
    · exact hs

theorem State.everyFeed_onsetTriple (hs : s.everyFeed Q) : s.onsetTriple.everyFeed Q := by
  unfold State.onsetTriple
  dsimp only
  split
  · rename_i ready
    obtain ⟨written, order⟩ := (Feed.tripleReady_iff _ _).mp ready
    exact (State.everyFeed_restsOn Q).of_frame (State.sweepTable_frame _ _) rfl
      (State.everyFeed_onset hs (inv.triple written order (hs .onset)))
  · exact hs

theorem State.everyFeed_onsetDiscontinuity (hs : s.everyFeed Q) (may : ∀ c, c ≠ .flush → allowed c = true) :
    s.onsetDiscontinuity.everyFeed Q := by
  unfold State.onsetDiscontinuity
  split
  · exact hs
  · rename_i c ready
    split
    · exact hs
    · rename_i other
      refine (State.everyFeed_restsOn Q).of_frame (qs := [.numbers])
        ((State.completeAll_frame _ _ _ rfl).trans (State.setBoundary_frame _ _)) rfl ?_
      exact State.everyFeed_onset hs (inv.signal ready (may c other) (hs .onset))

theorem State.everyFeed_onsetFlush (hs : s.everyFeed Q) (may : allowed .flush = true) : s.onsetFlush.everyFeed Q := by
  unfold State.onsetFlush
  split
  · rename_i ready
    refine (State.everyFeed_restsOn Q).of_frame (qs := [.counters])
      ((State.countFlushed_frame _ _ rfl).trans (State.setBoundary_frame _ _)) rfl ?_
    exact State.everyFeed_onset hs (inv.signal ready may (hs .onset))
  · exact hs

theorem State.everyFeed_signatureTriple (hs : s.everyFeed Q) : s.signatureTriple.everyFeed Q := by
  unfold State.signatureTriple
  dsimp only
  split
  · rename_i ready
    obtain ⟨written, order⟩ := (Feed.tripleReady_iff _ _).mp ready
    exact (State.everyFeed_restsOn Q).of_frame (Frame.foldl (fun s n => s.treatSlot_frame _ n) _ _) rfl
      (State.everyFeed_bank hs (inv.triple written order (hs .bank)))
  · exact hs

theorem State.everyFeed_bankSignal (hs : s.everyFeed Q) {want : Cause → Bool}
    (may : ∀ c, want c = true → allowed c = true) : (s.bankSignal want).everyFeed Q := by
  unfold State.bankSignal
  split
  · exact hs
  · rename_i c ready
    split
    · rename_i wanted
      exact State.everyFeed_bank hs (inv.signal ready (may c wanted) (hs .bank))
    · exact hs

theorem State.everyFeed_associationTriple (hs : s.everyFeed Q) : s.associationTriple.everyFeed Q := by
  unfold State.associationTriple
  dsimp only
  split
  · rename_i ready
    obtain ⟨written, order⟩ := (Feed.tripleReady_iff _ _).mp ready
    refine (State.everyFeed_restsOn Q).of_frame (qs := [.recent, .events, .outbox])
      (((State.judgeGap_frame _ _).trans ((State.closeWhere_frame _ _ _).mono rfl)).trans (frame_notes _ _ _ _)) rfl ?_
    exact State.everyFeed_assoc hs (inv.triple written order (hs .assoc))
  · exact hs

theorem State.everyFeed_takeAssocSignal (hs : s.everyFeed Q) {c : Cause} (ready : s.assoc.feed.signalReady = some c)
    (may : allowed c = true) : s.takeAssocSignal.everyFeed Q :=
  State.everyFeed_assoc hs (inv.signal ready may (hs .assoc))

theorem State.everyFeed_associationGap (hs : s.everyFeed Q) (gap : allowed .gap = true) (stop : allowed .stop = true) :
    s.associationGap.everyFeed Q := by
  have noted (taken : s.takeAssocSignal.everyFeed Q) (note : Option (Option Nat)) (fence : Option Fence) :
      ({ s.takeAssocSignal with
        assoc := { s.takeAssocSignal.assoc with gapNote := note, fence := fence } } : State).everyFeed Q :=
    (State.everyFeed_restsOn Q).of_frame (qs := []) (frame_notes _ note fence _) rfl taken
  unfold State.associationGap
  dsimp only
  split
  · rename_i ready
    exact noted (State.everyFeed_takeAssocSignal inv hs ready gap) _ _
  · rename_i ready
    exact noted (State.everyFeed_takeAssocSignal inv hs ready stop) _ _
  · exact hs

theorem State.everyFeed_associationTime (hs : s.everyFeed Q) (may : allowed .time = true) : s.associationTime.everyFeed Q := by
  unfold State.associationTime
  split
  · rename_i ready
    exact (State.everyFeed_restsOn Q).of_frame (State.abandonTime_frame _ _) rfl
      (State.everyFeed_takeAssocSignal inv hs ready may)
  · exact hs

theorem State.everyFeed_associationFlush (hs : s.everyFeed Q) (may : allowed .flush = true) :
    s.associationFlush.everyFeed Q := by
  unfold State.associationFlush
  dsimp only
  split
  · rename_i ready
    exact (State.everyFeed_restsOn Q).of_frame (qs := [.recent, .events, .outbox])
      (((State.closeWhere_frame _ _ _).mono rfl).trans (frame_abandoned _ _ rfl)) rfl
      (State.everyFeed_takeAssocSignal inv hs ready may)
  · exact hs

theorem State.everyFeed_snippetTriple (hs : s.everyFeed Q) : s.snippetTriple.everyFeed Q := by
  unfold State.snippetTriple
  dsimp only
  split
  · rename_i ready
    obtain ⟨written, order⟩ := (Feed.tripleReady_iff _ _).mp ready
    exact (State.everyFeed_restsOn Q).of_frame (Frame.foldl (fun s n => s.offerSlot_frame _ _ n) _ _) rfl
      (State.everyFeed_snips hs (inv.triple written order (hs .snips)))
  · exact hs

theorem State.everyFeed_snippetSignal (hs : s.everyFeed Q) (may : ∀ c, allowed c = true) : s.snippetSignal.everyFeed Q := by
  unfold State.snippetSignal
  split
  · exact hs
  · rename_i c ready
    exact (State.everyFeed_restsOn Q).of_frame (qs := [.snipSlots, .counters])
      ((Frame.foldl (fun s n => s.cutSlot_frame n) _ _).trans (frame_snipSlots _ _ _ rfl)) rfl
      (State.everyFeed_snips hs (inv.signal ready (may c) (hs .snips)))

theorem State.everyFeed_takeStop (hs : s.everyFeed Q) (m : InMsg) : (takeStop m s).everyFeed Q := by
  have searching : Frame [] s { s with port := { s.port with framer := .searching false, waiting := none } } := frame_port rfl
  have quiet := (State.everyFeed_restsOn Q).of_frame searching rfl hs
  refine (State.everyFeed_restsOn Q).of_frame (qs := [.replies]) (State.reply_frame s.stopInput _ rfl) rfl ?_
  unfold State.stopInput
  dsimp only
  split
  · exact quiet
  · exact (State.everyFeed_restsOn Q).of_frame (qs := []) (frame_port rfl) rfl (State.everyFeed_raiseSignal inv quiet .stop)

end Commands

/-- Every command keeps what writing, signals and takes of any kind keep of every reader. -/
theorem State.everyFeed_exec {Q : Reader → Feed → Nat → Prop} (inv : FeedInvariant (fun _ => true) Q)
    (atReset : ∀ r, Q r Feed.reset 0) (c : Instr) (s t : State) : s.everyFeed Q → exec c s = .next t → t.everyFeed Q := by
  have rests := State.everyFeed_restsOn Q
  have atReset : State.reset.everyFeed Q := fun
    | .det .v => atReset (.det .v)
    | .det .h => atReset (.det .h)
    | .onset => atReset .onset
    | .bank => atReset .bank
    | .assoc => atReset .assoc
    | .snips => atReset .snips
  refine exec_keeps rests rfl atReset (rests.refused rfl rfl) ?_ c s t
  intro c s t _ touched hs h
  have flushed {t : State} (ht : t.everyFeed Q) : t.finishFlush.everyFeed Q :=
    rests.of_frame (qs := [.flushing, .replies]) (State.finishFlush_frame _ rfl rfl) rfl ht
  have popped : s.popMessage.everyFeed Q := rests.of_frame (qs := [.inbox]) (s.popMessage_frame rfl) rfl hs
  have refused (m : InMsg) : (s.popMessage.reply (.rfsd m.code .short)).everyFeed Q :=
    rests.of_frame (qs := [.replies]) (State.reply_frame _ _ rfl) rfl popped
  cases c with
  | sampleCharacter b => exact keeps_live hs h (State.everyFeed_sampleByte inv hs b)
  | conditionTriple => exact keeps_live hs h (State.everyFeed_conditionNext inv hs)
  | detectorTriple d => exact keeps_live hs h (State.everyFeed_detectorTriple inv hs d)
  | detectorDiscontinuity d => exact keeps_live hs h (State.everyFeed_detectorSignal inv hs d fun _ _ => rfl)
  | detectorFlush d => exact keeps_live hs h (flushed (State.everyFeed_detectorSignal inv hs d fun _ _ => rfl))
  | onsetTriple => exact keeps_live hs h (State.everyFeed_onsetTriple inv hs)
  | onsetDiscontinuity => exact keeps_live hs h (State.everyFeed_onsetDiscontinuity inv hs fun _ _ => rfl)
  | onsetFlush => exact keeps_live hs h (flushed (State.everyFeed_onsetFlush inv hs rfl))
  | signatureTriple => exact keeps_live hs h (State.everyFeed_signatureTriple inv hs)
  | signatureDiscontinuity => exact keeps_live hs h (State.everyFeed_bankSignal inv hs fun _ _ => rfl)
  | signatureFlush => exact keeps_live hs h (flushed (State.everyFeed_bankSignal inv hs fun _ _ => rfl))
  | associationTriple => exact keeps_live hs h (State.everyFeed_associationTriple inv hs)
  | associationGap => exact keeps_live hs h (State.everyFeed_associationGap inv hs rfl rfl)
  | associationTime => exact keeps_live hs h (State.everyFeed_associationTime inv hs rfl)
  | associationFlush => exact keeps_live hs h (flushed (State.everyFeed_associationFlush inv hs rfl))
  | snippetTriple => exact keeps_live hs h (State.everyFeed_snippetTriple inv hs)
  | snippetDiscontinuity => exact keeps_live hs h (flushed (State.everyFeed_snippetSignal inv hs fun _ => rfl))
  | flsh =>
    refine keeps_message hs h fun m _ _ _ _ => ?_
    unfold action
    split
    · exact refused m
    · exact State.everyFeed_raiseSignal inv popped .flush
  | stop =>
    refine keeps_message hs h fun m _ _ _ _ => ?_
    unfold action
    split
    · exact refused m
    · exact State.everyFeed_takeStop inv popped m
  | pinReset | resetnLow | rstr => contradiction
  | _ => cases touched

/-! ## The three invariants of the readers -/

/-- A reader stands within the ring (R22). -/
def Feed.inRing (f : Feed) (w : Nat) : Prop := f.taken ≤ w ∧ w ≤ f.taken + 4096

theorem feedInvariant_inRing (allowed : Cause → Bool) : FeedInvariant allowed fun _ => Feed.inRing where
  raise _ h := h
  triple written _ h := ⟨written, Nat.le_trans h.2 (by simp only [Feed.takeTriple]; omega)⟩
  signal _ _ h := h
  write room h := ⟨Nat.le_succ_of_le h.1, room⟩

/-- A reader's signals stand in order, and it has treated no triple written after one of them (R17). -/
def Feed.inOrder (f : Feed) (w : Nat) : Prop :=
  (f.signals.map Signal.after).Pairwise (· ≤ ·) ∧ ∀ g ∈ f.signals, f.taken ≤ g.after ∧ g.after ≤ w

/-- A signal newly raised comes after all others; the head of an ordered list bounds the rest from below. -/
theorem feedInvariant_inOrder (allowed : Cause → Bool) : FeedInvariant allowed fun _ f w => f.inRing w ∧ f.inOrder w where
  raise {_ f w} c h := by
    obtain ⟨ring, sorted, bounds⟩ := h
    refine ⟨ring, ?_, ?_⟩
    · rw [Feed.raise, List.map_append, List.pairwise_append]
      refine ⟨sorted, List.pairwise_singleton _ _, ?_⟩
      simpa using fun g hg => (bounds g hg).2
    · intro g hg
      rcases List.mem_append.mp hg with old | new
      · exact bounds g old
      · rw [List.mem_singleton.mp new]
        exact ⟨ring.1, le_rfl⟩
  triple {_ f w} written order h := by
    obtain ⟨ring, sorted, bounds⟩ := h
    refine ⟨(feedInvariant_inRing allowed).triple (r := .onset) written order ring, sorted, fun g hg => ⟨?_, (bounds g hg).2⟩⟩
    change g ∈ f.signals at hg
    cases signals : f.signals with
    | nil => rw [signals] at hg; cases hg
    | cons first gs =>
      rw [signals] at hg sorted order
      have head : f.taken < first.after := order first rfl
      rcases List.mem_cons.mp hg with rfl | later
      · exact head
      · exact head.trans_le ((List.pairwise_cons.mp sorted).1 _ (List.mem_map_of_mem later))
  signal {_ f w _} _ _ h := by
    obtain ⟨ring, sorted, bounds⟩ := h
    refine ⟨ring, ?_, fun g hg => bounds g (List.mem_of_mem_tail hg)⟩
    rw [Feed.takeSignal, List.map_tail]
    exact sorted.tail
  write {_ f w} room h := by
    obtain ⟨ring, sorted, bounds⟩ := h
    exact ⟨⟨Nat.le_succ_of_le ring.1, room⟩, sorted, fun g hg => ⟨(bounds g hg).1, Nat.le_succ_of_le (bounds g hg).2⟩⟩

/-! ## The ring is full (R22) -/

theorem State.ringFull_restsOn : RestsOn State.ringFull [.ring] := by
  intro s t same hs
  have ring : t.ring = s.ring := same .ring rfl
  unfold State.ringFull
  rw [ring]
  exact hs

theorem State.ringFull_exec (c : Instr) (s t : State) : s.ringFull → exec c s = .next t → t.ringFull := by
  refine exec_keeps State.ringFull_restsOn rfl rfl (State.ringFull_restsOn.refused rfl rfl) ?_ c s t
  intro c s t _ touched hs h
  cases c with
  | conditionTriple =>
    refine keeps_live hs h ?_
    rcases s.conditionNext_ring with eq | ⟨t, ts, -, -, eq⟩ <;> rw [eq]
    · exact hs
    · exact State.ringFull_restsOn.of_frame (State.exchange_frame _) rfl (Ring.write_length _ hs)
  | pinReset | resetnLow | rstr => contradiction
  | _ => cases touched

/-! ## An FLSH still being decoded (R180) -/

/-- A FLUSH signal stands in this feed. -/
theorem Feed.holdsFlush_iff (f : Feed) : f.holdsFlush = true ↔ ∃ g ∈ f.signals, g.cause = .flush := by
  simp [Feed.holdsFlush]

/-- An FLSH under way is held by some reader. -/
theorem State.flushHeld_iff (s : State) : s.flushHeld ↔ (s.flushing = true → s.feeds.any Feed.holdsFlush = true) := by
  simp only [State.flushHeld, List.any_eq_true, Feed.holdsFlush_iff]

/-- Placing the ACKN ends the FLSH; where it is not placed some reader holds the signal, or there is no FLSH. -/
theorem State.finishFlush_flushHeld (s : State) : s.finishFlush.flushHeld := by
  rw [State.flushHeld_iff]
  unfold State.finishFlush
  split
  · exact fun h => by cases h
  · rename_i held
    intro flushing
    simpa [flushing] using held

/-- While some reader holds the signal the ACKN is not placed. -/
theorem State.finishFlush_of_held {s : State} (h : s.flushHeld) : s.finishFlush = s := by
  rw [State.flushHeld_iff] at h
  unfold State.finishFlush
  rw [if_neg]
  cases flushing : s.flushing with
  | false => simp
  | true => simp [h flushing]

theorem State.flushHeld_restsOn : RestsOn State.flushHeld [.feeds, .flushing] := by
  intro s t same hs
  have feeds : t.feeds = s.feeds := same .feeds rfl
  have flushing : t.flushing = s.flushing := same .flushing rfl
  unfold State.flushHeld
  rw [feeds, flushing]
  exact hs

/-- No reader loses a FLUSH signal to a signal raised, to a triple, or to a signal of another cause. -/
theorem feedInvariant_holdsFlush (r : Reader) :
    FeedInvariant (fun c => c != .flush) fun r' f _ => r' = r → f.holdsFlush = true where
  raise c h same := by
    rw [Feed.holdsFlush, Feed.raise, List.any_append, Bool.or_eq_true]
    exact .inl (h same)
  triple _ _ h := h
  write _ h := h
  signal {_ f _ c} ready other h same := by
    obtain ⟨g, head, rfl, -⟩ := (f.signalReady_iff c).mp ready
    obtain ⟨k, hk, flush⟩ := (Feed.holdsFlush_iff f).mp (h same)
    refine (Feed.holdsFlush_iff _).mpr ⟨k, ?_, flush⟩
    obtain ⟨gs, signals⟩ := List.head?_eq_some_iff.mp head
    rw [signals] at hk
    rw [Feed.takeSignal, signals]
    rcases List.mem_cons.mp hk with rfl | later
    · rw [flush] at other
      cases other
    · exact later

/-- An FLSH under way is held by the feed of some reader. -/
theorem State.flushHeld_iff_feedOf (s : State) : s.flushHeld ↔ (s.flushing = true → ∃ r, (s.feedOf r).holdsFlush = true) := by
  rw [State.flushHeld_iff, List.any_eq_true, s.exists_feeds_iff]

/-- What keeps every such property of the feeds, and leaves the FLSH as it stands, keeps it held. -/
theorem State.flushHeld_of_everyFeed {s t : State} (hs : s.flushHeld) (flushing : t.flushing = s.flushing)
    (keeps : ∀ Q, FeedInvariant (fun c => c != .flush) Q → s.everyFeed Q → t.everyFeed Q) : t.flushHeld := by
  rw [State.flushHeld_iff_feedOf] at hs ⊢
  intro under
  obtain ⟨r, held⟩ := hs (flushing ▸ under)
  exact ⟨r, keeps _ (feedInvariant_holdsFlush r) (fun r' same => same ▸ held) r rfl⟩

theorem State.flushHeld_exec (c : Instr) (s t : State) : s.flushHeld → exec c s = .next t → t.flushHeld := by
  have rests := State.flushHeld_restsOn
  have atReset : State.reset.flushHeld := fun h => by cases h
  refine exec_keeps rests rfl atReset (rests.refused rfl rfl) ?_ c s t
  intro c s t _ touched hs h
  have popped : s.popMessage.flushHeld := rests.of_frame (qs := [.inbox]) (s.popMessage_frame rfl) rfl hs
  have refused (m : InMsg) : (s.popMessage.reply (.rfsd m.code .short)).flushHeld :=
    rests.of_frame (qs := [.replies]) (State.reply_frame _ _ rfl) rfl popped
  have kept {u : State} {ps : List Part} (frame : Frame ps s u) (apart : ps.contains .flushing = false)
      (keeps : ∀ Q, FeedInvariant (fun c => c != .flush) Q → s.everyFeed Q → u.everyFeed Q) : u.flushHeld :=
    State.flushHeld_of_everyFeed hs (frame.same .flushing apart) keeps
  cases c with
  | sampleCharacter b => exact keeps_live hs h (kept (s.sampleByte_frame b) rfl fun _ inv h => State.everyFeed_sampleByte inv h b)
  | conditionTriple => exact keeps_live hs h (kept s.conditionNext_frame rfl fun _ inv h => State.everyFeed_conditionNext inv h)
  | detectorTriple d =>
    exact keeps_live hs h (kept (s.detectorTriple_frame d) rfl fun _ inv h => State.everyFeed_detectorTriple inv h d)
  | detectorDiscontinuity d =>
    exact keeps_live hs h (kept (s.detectorSignal_frame d _) rfl fun _ inv h =>
      State.everyFeed_detectorSignal inv h d fun _ other => other)
  | onsetTriple => exact keeps_live hs h (kept s.onsetTriple_frame rfl fun _ inv h => State.everyFeed_onsetTriple inv h)
  | onsetDiscontinuity =>
    exact keeps_live hs h (kept s.onsetDiscontinuity_frame rfl fun _ inv h =>
      State.everyFeed_onsetDiscontinuity inv h fun c other => by simpa using other)
  | signatureTriple => exact keeps_live hs h (kept s.signatureTriple_frame rfl fun _ inv h => State.everyFeed_signatureTriple inv h)
  | signatureDiscontinuity =>
    exact keeps_live hs h (kept (s.bankSignal_frame _) rfl fun _ inv h =>
      State.everyFeed_bankSignal inv h fun _ other => other)
  | associationTriple =>
    exact keeps_live hs h (kept s.associationTriple_frame rfl fun _ inv h => State.everyFeed_associationTriple inv h)
  | associationGap =>
    exact keeps_live hs h (kept s.associationGap_frame rfl fun _ inv h => State.everyFeed_associationGap inv h rfl rfl)
  | associationTime =>
    exact keeps_live hs h (kept s.associationTime_frame rfl fun _ inv h => State.everyFeed_associationTime inv h rfl)
  | snippetTriple => exact keeps_live hs h (kept s.snippetTriple_frame rfl fun _ inv h => State.everyFeed_snippetTriple inv h)
  | detectorFlush | onsetFlush | signatureFlush | associationFlush | snippetDiscontinuity =>
    exact keeps_live hs h (State.finishFlush_flushHeld _)
  | flsh =>
    refine keeps_message hs h fun m _ _ _ _ => ?_
    unfold action
    split
    · exact refused m
    · refine (State.flushHeld_iff_feedOf _).mpr fun _ => ⟨.onset, ?_⟩
      simp [State.feedOf, takeFlsh, Feed.holdsFlush, Feed.raise]
  | stop =>
    refine keeps_message hs h fun m _ _ _ _ => ?_
    unfold action
    split
    · exact refused m
    · exact State.flushHeld_of_everyFeed popped ((takeStop_frame m _).same .flushing rfl) fun _ inv h =>
        State.everyFeed_takeStop inv h m
  | pinReset | resetnLow | rstr => contradiction
  | _ => cases touched

end Sys2Proof.Machine
end

section
/-! When a reader may act, and that nothing changes where it may not (logs 3, 4, 8). -/

namespace Sys2Proof.Machine

/-! ## A command that finds nothing to take -/

section Idle

variable {s : State} {f : State → State}

/-- A function that leaves the state makes the command leave it. -/
theorem live_idle (h : f s = s) : (Host.Outcome.next (s.live f) : Answer) = .next s := by
  rcases s.live_cases f with k | k <;> rw [k]
  rw [h]

/-- A function that leaves a state in which an FLSH is held makes a command that may place its ACKN leave it. -/
theorem live_finish_idle (held : s.flushHeld) (h : f s = s) :
    (Host.Outcome.next (s.live fun s => (f s).finishFlush) : Answer) = .next s :=
  live_idle (by rw [h, State.finishFlush_of_held held])

theorem State.detectorTriple_idle {d : Det} (h : (s.det d).feed.tripleReady s.ring = false ∨ (s.det d).due ≠ none) :
    s.detectorTriple d = s := by
  refine if_neg ?_
  rcases h with h | h <;> simp [h]

theorem State.detectorSignal_idle {d : Det} {want : Cause → Bool}
    (h : (∀ c, (s.det d).feed.signalReady = some c → want c = false) ∨ (s.det d).due ≠ none) : s.detectorSignal d want = s := by
  unfold State.detectorSignal
  dsimp only
  split
  · rfl
  · rename_i c ready
    refine if_neg ?_
    rcases h with h | h
    · simp [h c ready]
    · simp [h]

theorem State.bankSignal_idle {want : Cause → Bool} (h : ∀ c, s.bank.feed.signalReady = some c → want c = false) :
    s.bankSignal want = s := by
  unfold State.bankSignal
  split
  · rfl
  · rename_i c ready
    exact if_neg (by simp [h c ready])

theorem State.onsetDiscontinuity_idle (h : s.onset.feed.signalReady = none ∨ s.onset.feed.signalReady = some .flush) :
    s.onsetDiscontinuity = s := by
  unfold State.onsetDiscontinuity
  rcases h with h | h <;> rw [h]
  rfl

theorem State.onsetFlush_idle (h : s.onset.feed.signalReady ≠ some .flush) : s.onsetFlush = s := by
  unfold State.onsetFlush
  split
  · exact absurd ‹_› h
  · rfl

theorem State.associationGap_idle (gap : s.assoc.feed.signalReady ≠ some .gap) (stop : s.assoc.feed.signalReady ≠ some .stop) :
    s.associationGap = s := by
  unfold State.associationGap
  dsimp only
  split
  · exact absurd ‹_› gap
  · exact absurd ‹_› stop
  · rfl

theorem State.associationTime_idle (h : s.assoc.feed.signalReady ≠ some .time) : s.associationTime = s := by
  unfold State.associationTime
  split
  · exact absurd ‹_› h
  · rfl

theorem State.associationFlush_idle (h : s.assoc.feed.signalReady ≠ some .flush) : s.associationFlush = s := by
  unfold State.associationFlush
  split
  · exact absurd ‹_› h
  · rfl

theorem State.snippetSignal_idle (h : s.snips.feed.signalReady = none) : s.snippetSignal = s := by
  unfold State.snippetSignal
  rw [h]

end Idle

/-- A triple that is not ready is not taken. -/
theorem not_ready {b : Bool} (h : b = false) : ¬ b = true := Bool.eq_false_iff.mp h

/-- A cause that is not ready, or is FLUSH, is none of the other three. -/
theorem other_causes {o : Option Cause} (h : o = none ∨ o = some .flush) : ∀ c, o = some c → (c != .flush) = false := by
  rintro c rfl
  rcases h with h | h <;> cases h
  rfl

/-- A cause other than the one that is ready. -/
theorem flush_only {o : Option Cause} (h : o ≠ some .flush) : ∀ c, o = some c → (c == .flush) = false := by
  rintro c rfl
  simpa using h

/-! ## The invariants of every step -/

theorem State.readersInRing_iff (s : State) : s.readersInRing ↔ s.everyFeed fun _ => Feed.inRing :=
  s.forall_feeds_iff fun f => f.inRing s.ring.written

theorem State.signalsInOrder_iff (s : State) :
    s.readersInRing ∧ s.signalsInOrder ↔ s.everyFeed fun _ f w => f.inRing w ∧ f.inOrder w := by
  rw [State.readersInRing_iff]
  have order : s.signalsInOrder ↔ s.everyFeed fun _ => Feed.inOrder := s.forall_feeds_iff fun f => f.inOrder s.ring.written
  rw [order]
  exact forall_and.symm

/-- Settles O55: a property of a reader's feed that writing, signals and takes keep holds of every reader after every command; the
two order invariants are such properties, and that a reader holds the FLUSH signal is one for all but the takers of FLUSH, which
place the ACKN when none holds it. -/
theorem stepsKeepTheRingAndItsReaders : Obligations.StepsKeepTheRingAndItsReaders := by
  refine ⟨fun s t h => ⟨fun full readers => ⟨?_, ?_⟩, fun readers order => ?_, fun held => ?_⟩,
    fun f r => ⟨f.tripleReady_iff r, f.signalReady_iff⟩, fun s held => ⟨fun d => ?_, ?_⟩⟩
  · exact step_keeps State.ringFull_restsOn rfl State.ringFull_exec full h
  · rw [State.readersInRing_iff] at readers ⊢
    exact step_keeps (State.everyFeed_restsOn _) rfl
      (State.everyFeed_exec (feedInvariant_inRing _) fun _ => ⟨le_rfl, Nat.zero_le _⟩) readers h
  · have both := s.signalsInOrder_iff.mp ⟨readers, order⟩
    refine (t.signalsInOrder_iff.mpr (step_keeps (State.everyFeed_restsOn _) rfl
      (State.everyFeed_exec (feedInvariant_inOrder _) fun _ => ?_) both h)).2
    exact ⟨⟨le_rfl, Nat.zero_le _⟩, List.Pairwise.nil, fun _ h => absurd h List.not_mem_nil⟩
  · exact step_keeps State.flushHeld_restsOn rfl State.flushHeld_exec held h
  · refine ⟨fun idle => live_idle (State.detectorTriple_idle idle), fun idle => live_idle (State.detectorSignal_idle ?_),
      fun idle => live_finish_idle held (State.detectorSignal_idle ?_)⟩
    · rcases idle with none | flush | due
      · exact .inl (other_causes (.inl none))
      · exact .inl (other_causes (.inr flush))
      · exact .inr due
    · exact idle.imp flush_only id
  · exact ⟨fun idle => live_idle (if_neg (not_ready idle)), fun idle => live_idle (State.onsetDiscontinuity_idle idle),
      fun idle => live_finish_idle held (State.onsetFlush_idle idle), fun idle => live_idle (if_neg (not_ready idle)),
      fun idle => live_idle (State.bankSignal_idle (other_causes idle)),
      fun idle => live_finish_idle held (State.bankSignal_idle (flush_only idle)),
      fun idle => live_idle (if_neg (not_ready idle)), fun gap stop => live_idle (State.associationGap_idle gap stop),
      fun idle => live_idle (State.associationTime_idle idle), fun idle => live_finish_idle held (State.associationFlush_idle idle),
      fun idle => live_idle (if_neg (not_ready idle)), fun idle => live_finish_idle held (State.snippetSignal_idle idle)⟩

end Sys2Proof.Machine
end

section
/-! Numbers, counters and settings stay in their ranges (R18, R19, R31, R40, R66, R73, R74, R101, R117, R133, R153, R187). -/

namespace Sys2Proof.Machine

/-! ## Numbers -/

/-- A number in 1..65535. -/
def legal (n : Nat) : Prop := 1 ≤ n ∧ n ≤ 65535

theorem numberAfter_legal {n : Nat} (h : legal n) (k : Nat) : legal (numberAfter n k) := by
  induction k generalizing n with
  | zero => exact h
  | succ k ih => exact ih (nextNumber_mem h)

theorem State.numbersLegal_restsOn : RestsOn State.numbersLegal [.numbers] := by
  intro s t same hs
  have numbers : t.nextNumbers = s.nextNumbers := same .numbers rfl
  simp only [State.nextNumbers, Prod.mk.injEq] at numbers
  obtain ⟨pick, event, v, h⟩ := numbers
  unfold State.numbersLegal
  rw [pick, event, v, h]
  exact hs

section Numbers

variable {s : State}

theorem State.numbersLegal_completeAll (hs : s.numbersLegal) (gap : Option Cause) (es : List Entry) :
    (s.completeAll gap es).numbersLegal := by
  obtain ⟨pick, rest⟩ := hs
  rw [State.completeAll_eq]
  exact ⟨numberAfter_legal pick _, rest⟩

theorem State.numbersLegal_completeOne (hs : s.numbersLegal) (gap : Option Cause) (e : Entry) :
    (s.completeOne gap e).numbersLegal := State.numbersLegal_completeAll hs gap [e]

theorem State.numbersLegal_sweepTable (hs : s.numbersLegal) (touch : Entry → Option Entry) :
    (s.sweepTable touch).numbersLegal := by
  rw [State.sweepTable_eq]
  exact State.numbersLegal_completeAll (by exact hs) _ _

theorem State.numbersLegal_placeEntry (hs : s.numbersLegal) (e : Entry) : (s.placeEntry e).numbersLegal := by
  unfold State.placeEntry
  split
  · exact State.numbersLegal_completeOne hs _ _
  · exact hs

theorem State.numbersLegal_popRequest (hs : s.numbersLegal) (d : Det) : (s.popRequest d).numbersLegal :=
  State.numbersLegal_restsOn.of_frame (qs := []) (s.popRequest_frame d) rfl hs

theorem State.numbersLegal_createDetectorEntry (hs : s.numbersLegal) (d : Det) (kind : PickKind) (episode : Nat) (trigger : Ref)
    (reference : Nat) (confirmed : Bool) : (s.createDetectorEntry d kind episode trigger reference confirmed).numbersLegal := by
  have last (l : LastOnset) : ({ s with onset := s.onset.setLast d l } : State).numbersLegal :=
    State.numbersLegal_restsOn.of_frame (qs := []) (frame_setLast s d l) rfl hs
  unfold State.createDetectorEntry
  dsimp only
  split
  · exact hs
  · split
    · exact hs
    · split
      · exact State.numbersLegal_completeOne (last _) _ _
      · exact State.numbersLegal_placeEntry (State.numbersLegal_restsOn.of_frame (State.detectorFirst_frame _ _) rfl (last _)) _

theorem State.numbersLegal_takePrimary (hs : s.numbersLegal) (d : Det) : (s.takePrimary d).numbersLegal := by
  unfold State.takePrimary
  split
  · split
    · exact hs
    · exact State.numbersLegal_createDetectorEntry (State.numbersLegal_popRequest hs d) ..
  · exact hs

theorem State.numbersLegal_takeSecondary (hs : s.numbersLegal) (d : Det) : (s.takeSecondary d).numbersLegal := by
  unfold State.takeSecondary
  split
  · split
    · exact hs
    · exact State.numbersLegal_createDetectorEntry (State.numbersLegal_popRequest hs d) ..
  · exact hs

theorem State.numbersLegal_takeSignature (hs : s.numbersLegal) : s.takeSignature.numbersLegal := by
  unfold State.takeSignature
  split
  · exact hs
  · split
    · exact hs
    · unfold State.createSignatureEntry
      dsimp only
      split
      · exact hs
      · split
        · exact hs
        · split
          · exact State.numbersLegal_completeOne (by exact hs) _ _
          · split
            · exact hs
            · exact State.numbersLegal_placeEntry (by exact hs) _

theorem State.numbersLegal_takeConfirm (hs : s.numbersLegal) (d : Det) : (s.takeConfirm d).numbersLegal := by
  unfold State.takeConfirm
  split
  · exact State.numbersLegal_sweepTable (State.numbersLegal_popRequest hs d) _
  · exact hs

theorem State.numbersLegal_takeMarkLong (hs : s.numbersLegal) (d : Det) : (s.takeMarkLong d).numbersLegal := by
  unfold State.takeMarkLong
  split
  · exact State.numbersLegal_sweepTable (State.numbersLegal_popRequest hs d) _
  · exact hs

theorem State.numbersLegal_onsetTriple (hs : s.numbersLegal) : s.onsetTriple.numbersLegal := by
  unfold State.onsetTriple
  dsimp only
  split
  · exact State.numbersLegal_sweepTable (by exact hs) _
  · exact hs

theorem State.numbersLegal_onsetDiscontinuity (hs : s.numbersLegal) : s.onsetDiscontinuity.numbersLegal := by
  unfold State.onsetDiscontinuity
  split
  · exact hs
  · split
    · exact hs
    · refine State.numbersLegal_restsOn.of_frame (qs := []) (State.setBoundary_frame _ _) rfl ?_
      exact State.numbersLegal_completeAll (by exact hs) _ _

theorem State.numbersLegal_openEvent (hs : s.numbersLegal) (p : Pick) (isP : Bool) : (s.openEvent p isP).numbersLegal := by
  obtain ⟨pick, event, dets⟩ := State.numbersLegal_restsOn.of_frame s.forceRoom_frame rfl hs
  unfold State.openEvent
  dsimp only
  split
  · exact State.numbersLegal_restsOn.of_frame (qs := [.outbox]) (State.handReport_frame _ _ rfl) rfl
      ⟨pick, nextNumber_mem event, dets⟩
  · exact ⟨pick, nextNumber_mem event, dets⟩

theorem State.numbersLegal_placePick (hs : s.numbersLegal) (p : Pick) : (s.placePick p).1.numbersLegal := by
  unfold State.placePick State.placeP State.placeS State.placeX
  dsimp only
  split
  · split
    · exact hs
    · split
      · exact hs
      · exact State.numbersLegal_openEvent hs p true
  · split
    · exact hs
    · exact State.numbersLegal_openEvent hs p false
  · split <;> exact hs

theorem State.numbersLegal_associatePick (hs : s.numbersLegal) : s.associatePick.numbersLegal := by
  unfold State.associatePick
  split
  · exact hs
  · unfold State.takePick
    split
    · exact hs
    · exact State.numbersLegal_placePick (by exact hs) _

end Numbers

/-- A detector's next episode number stands, or a trigger takes it. -/
theorem Detector.treat_nextEpisode (x : Detector) (at_ : Ref) (e : Nat) :
    (x.treat at_ e).nextEpisode = x.nextEpisode ∨ (x.treat at_ e).nextEpisode = nextNumber x.nextEpisode := by
  unfold Detector.treat
  split
  · exact .inl rfl
  · unfold Detector.warmupTriple
    dsimp only
    split <;> exact .inl rfl
  · unfold Detector.quietTriple
    dsimp only
    split
    · exact .inr rfl
    · exact .inl rfl
  · split
    · unfold Detector.triggeredTriple
      dsimp only
      split
      · exact .inl rfl
      · split
        · exact .inl rfl
        · split
          · exact .inl rfl
          · obtain ⟨ep, rs, h⟩ := Detector.secondaryTest_eq _ _ at_
            rw [h]
            exact .inl rfl
    · exact .inl rfl
  · exact .inl rfl

theorem State.numbersLegal_detectorTriple {s : State} (hs : s.numbersLegal) (d : Det) : (s.detectorTriple d).numbersLegal := by
  unfold State.detectorTriple
  dsimp only
  split
  · have next {x : Detector} {at_ : Ref} {e : Nat} (hx : legal x.nextEpisode) : legal (x.treat at_ e).nextEpisode := by
      rcases x.treat_nextEpisode at_ e with h | h <;> rw [h]
      · exact hx
      · exact nextNumber_mem hx
    obtain ⟨pick, event, v, h⟩ := hs
    cases d with
    | v => exact ⟨pick, event, next (x := { s.detV with feed := _ }) v, h⟩
    | h => exact ⟨pick, event, v, next (x := { s.detH with feed := _ }) h⟩
  · exact hs

theorem State.numbersLegal_reset : State.reset.numbersLegal :=
  ⟨⟨le_rfl, by decide⟩, ⟨le_rfl, by decide⟩, ⟨le_rfl, by decide⟩, le_rfl, by decide⟩

theorem State.numbersLegal_exec (c : Instr) (s t : State) : s.numbersLegal → exec c s = .next t → t.numbersLegal := by
  refine exec_keeps State.numbersLegal_restsOn rfl State.numbersLegal_reset (State.numbersLegal_restsOn.refused rfl rfl) ?_ c s t
  intro c s t _ touched hs h
  cases c with
  | detectorTriple d => exact keeps_live hs h (State.numbersLegal_detectorTriple hs d)
  | createPrimary d => exact keeps_live hs h (State.numbersLegal_takePrimary hs d)
  | createSecondary d => exact keeps_live hs h (State.numbersLegal_takeSecondary hs d)
  | createSignature => exact keeps_live hs h (State.numbersLegal_takeSignature hs)
  | confirm d => exact keeps_live hs h (State.numbersLegal_takeConfirm hs d)
  | markLong d => exact keeps_live hs h (State.numbersLegal_takeMarkLong hs d)
  | onsetTriple => exact keeps_live hs h (State.numbersLegal_onsetTriple hs)
  | onsetDiscontinuity => exact keeps_live hs h (State.numbersLegal_onsetDiscontinuity hs)
  | associatePick => exact keeps_live hs h (State.numbersLegal_associatePick hs)
  | pinReset | resetnLow | rstr => contradiction
  | _ => cases touched

/-! ## Settings -/

theorem State.settingsInRange_restsOn : RestsOn State.settingsInRange [.settings] := by
  intro s t same hs
  have settings : t.allSettings = s.allSettings := same .settings rfl
  simp only [State.allSettings, Prod.mk.injEq] at settings
  obtain ⟨port, v, h, onst, phas, evts, queues, snip⟩ := settings
  have levels (i : Fin 4) : (t.queues.get i).batch = (s.queues.get i).batch ∧ (t.queues.get i).hold = (s.queues.get i).hold := by
    simpa using congrArg (fun f => f.get i) queues
  unfold State.settingsInRange
  simp only [port, v, h, onst, phas, evts, snip, levels]
  exact hs

/-- An off level lowered below its on level stays at or above 16 (R40). -/
theorem lowered_offLevel {on off : Nat} (hon : 20 ≤ on) (hoff : 16 ≤ off) :
    16 ≤ (if on ≤ off then on - 1 else off) ∧ (if on ≤ off then on - 1 else off) < on := by
  split <;> omega

/-- An s-limit raised above its p-limit stays within 4095 (R74). -/
theorem raised_sLimit {p s : Nat} (hp : p ≤ 4094) (hs : s ≤ 4095) :
    p < (if s ≤ p then p + 1 else s) ∧ (if s ≤ p then p + 1 else s) ≤ 4095 := by
  split <;> omega

/-- Settings stored from a DETS and pair-checked lie in their ranges (R40). -/
theorem DetSettings.store_inRange {p : DetSettings} (h : p.inRange) (fs : List Nat) : (p.store fs).pairs.inRange := by
  obtain ⟨ks, ⟨-, klLow, klHigh⟩, lmin, onLevel, ⟨offLow, offHigh⟩, minD, maxD, k2, sep, rec⟩ := h
  have ks' := setting_mem (lo := 1) (hi := 8) (by decide) ks fs 2
  have kl' := setting_mem (lo := 4) (hi := 14) (by decide) ⟨klLow, klHigh⟩ fs 3
  have on' := setting_mem (lo := 20) (hi := 4095) (by decide) onLevel fs 5
  have off' := setting_mem (lo := 16) (hi := 4094) (by decide) ⟨offLow, by omega⟩ fs 6
  refine ⟨ks', ?_, setting_mem (by decide) lmin fs 4, on', ?_, setting_mem (by decide) minD fs 7,
    setting_mem (by decide) maxD fs 8, setting_mem (by decide) k2 fs 9, setting_mem (by decide) sep fs 10,
    (setting_mem (Nat.zero_le _) ⟨Nat.zero_le _, rec⟩ fs 11).2⟩
  · simp only [DetSettings.pairs, DetSettings.store]
    omega
  · exact lowered_offLevel on'.1 off'.1

section Settings

variable {s : State}

theorem State.settingsInRange_takeInpt (hs : s.settingsInRange) (m : InMsg) : (takeInpt m s).settingsInRange := by
  obtain ⟨⟨stream, fill, shift, clip⟩, rest⟩ := hs
  unfold takeInpt
  split
  · exact ⟨⟨(setting_mem (Nat.zero_le _) ⟨Nat.zero_le _, stream⟩ _ 0).2, (setting_mem (Nat.zero_le _) ⟨Nat.zero_le _, fill⟩ _ 2).2,
      setting_mem (by decide) shift _ 3, setting_mem (by decide) clip _ 4⟩, rest⟩
  · exact ⟨⟨stream, fill, shift, clip⟩, rest⟩

theorem State.settingsInRange_takeDets (hs : s.settingsInRange) (m : InMsg) : (takeDets m s).settingsInRange := by
  have one (sel : Bool) {x : Detector} (hx : x.settings.inRange) (fs : List Nat) :
      (if sel then x.takeDets fs else x).settings.inRange := by
    cases sel
    · exact hx
    · rw [if_pos rfl, (x.takeDets_keeps fs).2.2]
      exact DetSettings.store_inRange hx fs
  obtain ⟨port, v, h, rest⟩ := hs
  exact ⟨port, one _ v _, one _ h _, rest⟩

theorem State.settingsInRange_takeOnst (hs : s.settingsInRange) (m : InMsg) : (takeOnst m s).settingsInRange := by
  obtain ⟨port, v, h, ⟨lookBack, runLength, factor, measureLen, tolerance⟩, rest⟩ := hs
  exact ⟨port, v, h, ⟨setting_mem (by decide) lookBack _ 0, setting_mem (by decide) runLength _ 1,
    setting_mem (by decide) factor _ 2, setting_mem (by decide) measureLen _ 3,
    (setting_mem (Nat.zero_le _) ⟨Nat.zero_le _, tolerance⟩ _ 4).2⟩, rest⟩

theorem State.settingsInRange_takePhas (hs : s.settingsInRange) (m : InMsg) : (takePhas m s).settingsInRange := by
  obtain ⟨port, v, h, onst, ⟨⟨g12, g23, g3⟩, limits, sLimit⟩, rest⟩ := hs
  refine ⟨port, v, h, onst, ?_, rest⟩
  have g1' := setting_mem (lo := 0) (hi := 4095) (by decide) ⟨Nat.zero_le _, (g12.trans g23).trans g3⟩ (phasFields m) 0
  have g2' := setting_mem (lo := 0) (hi := 4095) (by decide) ⟨Nat.zero_le _, g23.trans g3⟩ (phasFields m) 1
  have g3' := setting_mem (lo := 0) (hi := 4095) (by decide) ⟨Nat.zero_le _, g3⟩ (phasFields m) 2
  have p' := setting_mem (lo := 0) (hi := 4094) (old := s.onset.phas.pLimit) (by decide) ⟨Nat.zero_le _, by omega⟩ (phasFields m) 3
  have s' := setting_mem (lo := 1) (hi := 4095) (old := s.onset.phas.sLimit) (by decide) ⟨by omega, sLimit⟩ (phasFields m) 4
  refine ⟨?_, raised_sLimit p'.2 s'.2⟩
  simp only [takePhas, ackSettings, State.reply_onset, PhaseSettings.pairs, PhaseSettings.store]
  omega

theorem State.settingsInRange_takeEvts (hs : s.settingsInRange) (m : InMsg) : (takeEvts m s).settingsInRange := by
  obtain ⟨port, v, h, onst, phas, ⟨⟨spLow, spMid, spHigh⟩, tolerance, xWindow, closeWindow⟩, rest⟩ := hs
  refine ⟨port, v, h, onst, phas, ?_, rest⟩
  have min' := setting_mem (lo := 1) (hi := 65535) (by decide) ⟨spLow, spMid.trans spHigh⟩ (evtsFields m) 0
  have max' := setting_mem (lo := 0) (hi := 65535) (by decide) ⟨Nat.zero_le _, spHigh⟩ (evtsFields m) 1
  refine ⟨?_, (setting_mem (Nat.zero_le _) ⟨Nat.zero_le _, tolerance⟩ _ 2).2,
    (setting_mem (Nat.zero_le _) ⟨Nat.zero_le _, xWindow⟩ _ 3).2, setting_mem (by decide) closeWindow _ 4⟩
  simp only [takeEvts, ackSettings, State.reply_assoc, EventSettings.pairs, EventSettings.store]
  omega

theorem State.settingsInRange_takeSnip (hs : s.settingsInRange) (m : InMsg) : (takeSnip m s).settingsInRange := by
  obtain ⟨port, v, h, onst, phas, evts, queues, pre, post, sum, size⟩ := hs
  refine ⟨port, v, h, onst, phas, evts, queues, ?_⟩
  have pre' := setting_mem (lo := 0) (hi := 255) (by decide) ⟨Nat.zero_le _, pre⟩ (snipFields m) 0
  have post' := setting_mem (lo := 1) (hi := 511) (by decide) post (snipFields m) 1
  have size' := setting_mem (lo := 4) (hi := 24) (by decide) size (snipFields m) 2
  simp only [takeSnip, ackSettings, State.reply_snips, SnipSettings.pairs, SnipSettings.store]
  omega

theorem State.settingsInRange_takeQset (hs : s.settingsInRange) (m : InMsg) : (takeQset m s).settingsInRange := by
  unfold takeQset
  dsimp only
  split
  · exact hs
  · split
    · exact hs
    · rename_i i _
      obtain ⟨port, v, h, onst, phas, evts, queues, snip⟩ := hs
      obtain ⟨x, ns, hx, eq⟩ := s.putQueue_eq i ((s.queues.get i).applyQset (takeFields [1, 1, 2] m.body))
      obtain ⟨batch, hold⟩ := queues i
      have stored : (1 ≤ x.batch ∧ x.batch ≤ 32) ∧ x.hold ≤ 10000 := by
        have levels := And.intro (setting_mem (lo := 1) (hi := 32) (by decide) batch (takeFields [1, 1, 2] m.body) 1)
          (setting_mem (lo := 0) (hi := 10000) (by decide) ⟨Nat.zero_le _, hold⟩ (takeFields [1, 1, 2] m.body) 2).2
        rcases hx with rfl | rfl <;> exact levels
      rw [eq]
      refine ⟨port, v, h, onst, phas, evts, fun j => ?_, snip⟩
      rw [ackSettings, State.reply_queues, Four.get_set]
      split
      · exact stored
      · exact queues j

end Settings

/-- Every setting has its default in its range. -/
theorem State.settingsInRange_reset : State.reset.settingsInRange := by
  have det : DetSettings.reset.inRange := by
    unfold DetSettings.inRange
    decide
  refine ⟨by decide, det, det, by decide, by decide, by decide, fun i => ?_, by decide⟩
  have queue : State.reset.queues.get i = Queue.reset := Four.get_all _ i
  rw [queue]
  decide

theorem State.settingsInRange_exec (c : Instr) (s t : State) : s.settingsInRange → exec c s = .next t → t.settingsInRange := by
  have rests := State.settingsInRange_restsOn
  refine exec_keeps rests rfl State.settingsInRange_reset (rests.refused rfl rfl) ?_ c s t
  intro c s t _ touched hs h
  have popped : s.popMessage.settingsInRange := rests.of_frame (qs := [.inbox]) (s.popMessage_frame rfl) rfl hs
  cases c with
  | inpt => exact keeps_message hs h fun m _ _ _ _ => State.settingsInRange_takeInpt popped m
  | dets => exact keeps_message hs h fun m _ _ _ _ => State.settingsInRange_takeDets popped m
  | onst => exact keeps_message hs h fun m _ _ _ _ => State.settingsInRange_takeOnst popped m
  | phas => exact keeps_message hs h fun m _ _ _ _ => State.settingsInRange_takePhas popped m
  | evts => exact keeps_message hs h fun m _ _ _ _ => State.settingsInRange_takeEvts popped m
  | qset => exact keeps_message hs h fun m _ _ _ _ => State.settingsInRange_takeQset popped m
  | snip => exact keeps_message hs h fun m _ _ _ _ => State.settingsInRange_takeSnip popped m
  | pinReset | resetnLow | rstr => contradiction
  | _ => cases touched

end Sys2Proof.Machine
end

section
/-! Every counter stays a 32-bit count (R19, R187). -/

namespace Sys2Proof.Machine

/-! ## One counter at a time -/

/-- The counters are bounded when the list of them is (R187). -/
theorem Counters.bounded_iff (c : Counters) : c.bounded ↔ ∀ x ∈ c.list, x ≤ 4294967295 := by
  have lost : (∀ q, c.poolLost.get q ≤ 4294967295) ↔ c.poolLost.q0 ≤ 4294967295 ∧ c.poolLost.q1 ≤ 4294967295 ∧
      c.poolLost.q2 ≤ 4294967295 ∧ c.poolLost.q3 ≤ 4294967295 :=
    ⟨fun h => ⟨h 0, h 1, h 2, h 3⟩, fun ⟨a, b, d, e⟩ q => match q with | 0 => a | 1 => b | 2 => d | 3 => e⟩
  unfold Counters.bounded
  rw [lost]
  simp only [Counters.list, Four.toList, List.cons_append, List.nil_append, List.forall_mem_cons, List.not_mem_nil,
    false_imp_iff, implies_true, and_true, and_assoc]

/-- Counters of which one, at its place in CNTP's order, has gained a saturating count. -/
theorem Counters.bounded_of_set {c c' : Counters} (h : c.bounded) (i : Nat) {n k : Nat} (set : c'.list = c.list.set i (ctr n k)) :
    c'.bounded := by
  rw [Counters.bounded_iff] at h ⊢
  intro x hx
  rw [set] at hx
  rcases List.mem_or_eq_of_mem_set hx with old | rfl
  · exact h x old
  · exact ctr_le n k

/-- A queue's losses counted. -/
theorem Counters.bounded_poolLost {c : Counters} (h : c.bounded) (i : Fin 4) (n k : Nat) :
    ({ c with poolLost := c.poolLost.set i (ctr n k) } : Counters).bounded :=
  match i with
  | 0 => Counters.bounded_of_set h 16 rfl
  | 1 => Counters.bounded_of_set h 17 rfl
  | 2 => Counters.bounded_of_set h 18 rfl
  | 3 => Counters.bounded_of_set h 19 rfl

/-! ## The operations that count -/

/-- Every counter of the part is a 32-bit count. -/
def State.counted (s : State) : Prop := s.counters.bounded

theorem State.counted_restsOn : RestsOn State.counted [.counters] := by
  intro s t same hs
  have counters : t.counters = s.counters := same .counters rfl
  unfold State.counted
  rw [counters]
  exact hs

section Counted

variable {s : State}

theorem State.counted_judge (hs : s.counted) (b : Block) : (s.judge b).counted := by
  unfold State.judge
  dsimp only
  split
  · split
    · split
      · exact hs
      · exact Counters.bounded_of_set hs 7 rfl
    · split
      · exact Counters.bounded_of_set hs 5 rfl
      · exact Counters.bounded_of_set hs 6 rfl
  · exact hs

theorem State.counted_takeBlock (hs : s.counted) (b : Block) : (s.takeBlock b).counted := by
  have good : s.countGood.counted := Counters.bounded_of_set hs 0 rfl
  have offered : (s.countGood.offerBlock b).counted := by
    unfold State.offerBlock
    split
    · exact State.counted_judge good b
    · exact good
  unfold State.takeBlock
  split
  · exact Counters.bounded_of_set hs 3 rfl
  · split
    · exact good
    · exact offered
    · split
      · exact Counters.bounded_of_set hs 4 rfl
      · exact offered

theorem State.counted_sampleByte (hs : s.counted) (b : Byte) : (s.sampleByte b).counted := by
  unfold State.sampleByte State.frameByte State.endFrame
  split
  · exact hs
  · split
    · split <;> exact hs
    · split
      · exact Counters.bounded_of_set hs 1 rfl
      · split
        · dsimp only
          split
          · exact State.counted_takeBlock (by exact hs) _
          · exact Counters.bounded_of_set hs 2 rfl
        · exact hs

theorem State.counted_conditionNext (hs : s.counted) : s.conditionNext.counted := by
  rcases s.conditionNext_ring with eq | ⟨t, ts, -, -, eq⟩ <;> rw [eq]
  · exact hs
  · unfold State.exchange
    split
    · exact State.counted_judge (by exact hs) _
    · exact hs

theorem State.counted_countFlushed (hs : s.counted) (n : Nat) : (s.countFlushed n).counted := Counters.bounded_of_set hs 11 rfl

theorem State.counted_overrun (hs : s.counted) : s.overrun.counted := Counters.bounded_of_set hs 8 rfl

theorem State.counted_detectorFirst (hs : s.counted) (e : Entry) : (s.detectorFirst e).1.counted := by
  unfold State.detectorFirst
  split
  · split
    · exact hs
    · exact Counters.bounded_of_set hs 10 rfl
  · exact hs

theorem State.counted_createDetectorEntry (hs : s.counted) (d : Det) (kind : PickKind) (episode : Nat) (trigger : Ref)
    (reference : Nat) (confirmed : Bool) : (s.createDetectorEntry d kind episode trigger reference confirmed).counted := by
  unfold State.createDetectorEntry
  dsimp only
  split
  · exact State.counted_countFlushed hs 1
  · split
    · exact State.counted_overrun hs
    · split
      · exact hs
      · exact State.counted_restsOn.of_frame (State.placeEntry_frame _ _) rfl (State.counted_detectorFirst (by exact hs) _)

theorem State.counted_popRequest (hs : s.counted) (d : Det) : (s.popRequest d).counted :=
  State.counted_restsOn.of_frame (qs := []) (s.popRequest_frame d) rfl hs

theorem State.counted_takePrimary (hs : s.counted) (d : Det) : (s.takePrimary d).counted := by
  unfold State.takePrimary
  split
  · split
    · exact hs
    · exact State.counted_createDetectorEntry (State.counted_popRequest hs d) ..
  · exact hs

theorem State.counted_takeSecondary (hs : s.counted) (d : Det) : (s.takeSecondary d).counted := by
  unfold State.takeSecondary
  split
  · split
    · exact hs
    · exact State.counted_createDetectorEntry (State.counted_popRequest hs d) ..
  · exact hs

theorem State.counted_takeSignature (hs : s.counted) : s.takeSignature.counted := by
  unfold State.takeSignature
  split
  · exact hs
  · split
    · exact hs
    · unfold State.createSignatureEntry
      dsimp only
      split
      · exact State.counted_countFlushed (by exact hs) 1
      · split
        · exact State.counted_overrun (by exact hs)
        · split
          · exact hs
          · split
            · exact Counters.bounded_of_set hs 10 rfl
            · exact State.counted_restsOn.of_frame (State.placeEntry_frame _ _) rfl (by exact hs)

theorem State.counted_takeCancel (hs : s.counted) (d : Det) : (s.takeCancel d).counted := by
  unfold State.takeCancel
  split
  · exact Counters.bounded_of_set (State.counted_popRequest hs d) 9 rfl
  · exact hs

theorem State.counted_onsetFlush (hs : s.counted) : s.onsetFlush.counted := by
  unfold State.onsetFlush
  split
  · exact State.counted_countFlushed (by exact hs) _
  · exact hs

theorem State.counted_foldl {α : Type} {f : State → α → State} (each : ∀ {s : State} (a : α), s.counted → (f s a).counted)
    (as : List α) (hs : s.counted) : (as.foldl f s).counted := by
  induction as generalizing s with
  | nil => exact hs
  | cons a as ih => exact ih (each a hs)

theorem State.counted_treatSlot (hs : s.counted) (idx : Nat) (n : Fin 8) : (s.treatSlot idx n).counted := by
  unfold State.treatSlot
  split
  · exact hs
  · exact Counters.bounded_of_set hs 12 rfl

theorem State.counted_signatureTriple (hs : s.counted) : s.signatureTriple.counted := by
  unfold State.signatureTriple
  dsimp only
  split
  · exact State.counted_foldl (fun n h => State.counted_treatSlot h _ n) _ (by exact hs)
  · exact hs

theorem State.counted_forceRoom (hs : s.counted) : s.forceRoom.counted := by
  unfold State.forceRoom
  split
  · exact hs
  · split
    · exact hs
    · split
      · exact hs
      · exact State.counted_restsOn.of_frame (qs := [.outbox]) (State.handReport_frame _ _ rfl) rfl
          (Counters.bounded_of_set hs 13 rfl)

theorem State.counted_openEvent (hs : s.counted) (p : Pick) (isP : Bool) : (s.openEvent p isP).counted := by
  unfold State.openEvent
  dsimp only
  split
  · exact State.counted_restsOn.of_frame (qs := [.outbox]) (State.handReport_frame _ _ rfl) rfl (State.counted_forceRoom hs)
  · exact State.counted_forceRoom hs

theorem State.counted_placePick (hs : s.counted) (p : Pick) : (s.placePick p).1.counted := by
  unfold State.placePick State.placeP State.placeS State.placeX
  dsimp only
  split
  · split
    · exact hs
    · split
      · exact hs
      · exact State.counted_openEvent hs p true
  · split
    · exact hs
    · exact State.counted_openEvent hs p false
  · split <;> exact hs

theorem State.counted_associatePick (hs : s.counted) : s.associatePick.counted := by
  unfold State.associatePick
  split
  · exact hs
  · unfold State.takePick
    split
    · exact hs
    · exact State.counted_placePick (by exact hs) _

theorem State.counted_routePick (hs : s.counted) : s.routePick.counted := by
  unfold State.routePick
  split
  · change (State.routeOne s _ _ _).2.bounded
    unfold State.routeOne
    dsimp only
    split
    · exact Counters.bounded_of_set hs 14 rfl
    · split
      · exact hs
      · split
        · exact hs
        · exact Counters.bounded_of_set hs 15 rfl
  · exact hs

theorem State.counted_loseOn (hs : s.counted) (i : Fin 4) (k : Nat) : (s.loseOn i k).counted := by
  by_cases h : k = 0
  · rw [h]
    exact hs
  · rw [State.loseOn_eq _ _ _ h]
    exact Counters.bounded_poolLost hs i _ _

theorem State.counted_putQueue (hs : s.counted) (i : Fin 4) (q : Queue) : (s.putQueue i q).counted := by
  unfold State.counted
  rw [State.putQueue_counters]
  exact hs

theorem State.counted_evictQueue (hs : s.counted) (i : Fin 4) (lack : Nat) : (s.evictQueue i lack).counted := by
  unfold State.evictQueue
  dsimp only
  split
  · exact hs
  · refine State.counted_putQueue (State.counted_loseOn ?_ i _) i _
    exact State.counted_restsOn.of_frame (qs := [.snipSlots]) (State.freeSlots_frame _ _ rfl) rfl (by exact hs)

theorem State.counted_evictAll (hs : s.counted) (is : List (Fin 4)) (lack : Nat) : (s.evictAll is lack).counted := by
  induction is generalizing s lack with
  | nil => exact hs
  | cons i is ih => exact ih (State.counted_evictQueue hs i lack) _

theorem State.counted_makeRoom {u : State} (hs : s.counted) {i : Fin 4} {n : Nat} (h : s.makeRoom i n = some u) : u.counted := by
  rcases s.makeRoom_cases i n with ⟨-, eq⟩ | ⟨-, -, eq⟩ | ⟨-, -, eq⟩ <;> rw [eq] at h <;> cases h
  · exact hs
  · exact State.counted_evictAll hs _ _

theorem State.counted_arriveOne (hs : s.counted) (i : Fin 4) (r : Record) : (s.arriveOne i r).counted := by
  unfold State.arriveOne
  split
  · exact State.counted_loseOn hs i 1
  · rename_i room
    exact State.counted_putQueue (State.counted_makeRoom hs room) i _

theorem State.counted_takeSlot (hs : s.counted) (n : Fin 8) (p : Pick) : (s.takeSlot n p).counted := by
  unfold State.takeSlot
  dsimp only
  split
  · exact Counters.bounded_of_set hs 20 rfl
  · exact hs

theorem counted_queueArrival {t : State} (hs : s.counted) (h : execQueueArrival s = .next t) : t.counted := by
  unfold execQueueArrival at h
  split at h
  · cases h; exact hs
  · split at h
    · cases h
      exact State.counted_arriveOne (by exact hs) _ _
    · split at h
      · split at h
        · cases h; exact hs
        · unfold State.arriveSnippet at h
          split at h
          · cases h
            exact State.counted_loseOn (by exact hs) _ 2
          · rename_i room
            split at h
            · cases h
            · cases h
              exact State.counted_putQueue (State.counted_takeSlot (State.counted_makeRoom (by exact hs) room) _ _) _ _
      · cases h
        exact State.counted_arriveOne (by exact hs) _ _
    · cases h; exact hs

theorem State.counted_countCut (hs : s.counted) : s.countCut.counted := Counters.bounded_of_set hs 20 rfl

theorem State.counted_offerSlot (hs : s.counted) (idx : Nat) (t : Triple) (n : Fin 8) : (s.offerSlot idx t n).counted := by
  unfold State.offerSlot
  dsimp only
  split
  · split
    · exact State.counted_countCut (by exact hs)
    · exact hs
  · exact hs

theorem State.counted_cutSlot (hs : s.counted) (n : Fin 8) : (s.cutSlot n).counted := by
  unfold State.cutSlot
  dsimp only
  split
  · exact State.counted_countCut (by exact hs)
  · exact hs

theorem State.counted_snippetTriple (hs : s.counted) : s.snippetTriple.counted := by
  unfold State.snippetTriple
  dsimp only
  split
  · exact State.counted_foldl (fun n h => State.counted_offerSlot h _ _ n) _ (by exact hs)
  · exact hs

theorem State.counted_snippetSignal (hs : s.counted) : s.snippetSignal.counted := by
  unfold State.snippetSignal
  split
  · exact hs
  · exact State.counted_restsOn.of_frame (qs := [.snipSlots]) (frame_snipSlots _ _ _ rfl) rfl
      (State.counted_foldl (fun n h => State.counted_cutSlot h n) _ (by exact hs))

theorem State.counted_breakMessage (hs : s.counted) : s.breakMessage.counted := by
  unfold State.breakMessage
  split
  · exact hs
  · exact Counters.bounded_of_set hs 22 rfl

theorem State.counted_framingError (hs : s.counted) : s.framingError.counted :=
  State.counted_breakMessage (Counters.bounded_of_set hs 21 rfl)

theorem State.counted_linkOverrun (hs : s.counted) : s.linkOverrun.counted := Counters.bounded_of_set hs 23 rfl

theorem State.counted_opener (hs : s.counted) (code : Byte) : (s.opener code).counted := by
  unfold State.opener
  dsimp only
  split
  · exact State.counted_linkOverrun (State.counted_breakMessage hs)
  · exact State.counted_breakMessage hs

theorem State.counted_dataCharacter (hs : s.counted) (b : Byte) : (s.dataCharacter b).counted := by
  unfold State.dataCharacter
  split
  · exact hs
  · split
    · exact State.counted_breakMessage (State.counted_linkOverrun hs)
    · rename_i m _ _
      change (s.counters.broken (m.take b)).bounded
      unfold Counters.broken
      split
      · exact Counters.bounded_of_set hs 22 rfl
      · exact hs

theorem State.counted_linkCharacter (hs : s.counted) (mark : Bool) (b : Byte) (stop : Bool) :
    (s.linkCharacter mark b stop).counted := by
  unfold State.linkCharacter State.takeCharacter
  split
  · exact hs
  · split
    · split
      · split
        · exact hs
        · split
          · exact hs
          · exact State.counted_opener hs b
      · exact State.counted_dataCharacter hs b
    · split
      · exact hs
      · exact State.counted_framingError hs

theorem State.counted_lineBreak (hs : s.counted) : s.lineBreak.counted := by
  unfold State.lineBreak
  split
  · exact hs
  · exact State.counted_breakMessage hs

theorem State.counted_returnToMark (hs : s.counted) : s.returnToMark.counted := by
  unfold State.returnToMark
  dsimp only
  split
  · exact hs
  · exact State.counted_framingError hs
  · exact hs

end Counted

/-! ## Every command -/

theorem Counters.bounded_zero : Counters.zero.bounded := (Counters.bounded_iff _).mpr (by decide)

theorem State.counted_exec (c : Instr) (s t : State) : s.counted → exec c s = .next t → t.counted := by
  refine exec_keeps State.counted_restsOn rfl Counters.bounded_zero (State.counted_restsOn.refused rfl rfl) ?_ c s t
  intro c s t _ touched hs h
  cases c with
  | sampleCharacter b => exact keeps_live hs h (State.counted_sampleByte hs b)
  | conditionTriple => exact keeps_live hs h (State.counted_conditionNext hs)
  | createPrimary d => exact keeps_live hs h (State.counted_takePrimary hs d)
  | createSecondary d => exact keeps_live hs h (State.counted_takeSecondary hs d)
  | createSignature => exact keeps_live hs h (State.counted_takeSignature hs)
  | cancel d => exact keeps_live hs h (State.counted_takeCancel hs d)
  | onsetFlush =>
    exact keeps_live hs h (State.counted_restsOn.of_frame (qs := [.flushing, .replies]) (State.finishFlush_frame _ rfl rfl) rfl
      (State.counted_onsetFlush hs))
  | signatureTriple => exact keeps_live hs h (State.counted_signatureTriple hs)
  | associatePick => exact keeps_live hs h (State.counted_associatePick hs)
  | routePick => exact keeps_live hs h (State.counted_routePick hs)
  | queueArrival => exact counted_queueArrival hs h
  | snippetTriple => exact keeps_live hs h (State.counted_snippetTriple hs)
  | snippetDiscontinuity =>
    exact keeps_live hs h (State.counted_restsOn.of_frame (qs := [.flushing, .replies]) (State.finishFlush_frame _ rfl rfl) rfl
      (State.counted_snippetSignal hs))
  | linkCharacter mark b stop => exact keeps_live hs h (State.counted_linkCharacter hs mark b stop)
  | lineBreak => exact keeps_live hs h (State.counted_lineBreak hs)
  | lineReturnsToMark => exact keeps_live hs h (State.counted_returnToMark hs)
  | cntr =>
    refine keeps_message hs h fun m _ _ _ _ => ?_
    unfold action takeCntr
    dsimp only
    split
    · exact hs
    · change (if decide (m.at 0 ≠ 0) then Counters.zero else s.counters).bounded
      split
      · exact Counters.bounded_zero
      · exact hs
  | pinReset | resetnLow | rstr => contradiction
  | _ => cases touched

/-- Settles O57: numbers run on by `nextNumber`, counters gain saturating counts alone, and a setting is a field at its nearest
limit, pair checks included; each rests on its own part of the state. -/
theorem stepsKeepNumbersCountersAndSettings : Obligations.StepsKeepNumbersCountersAndSettings :=
  fun _ _ numbers counters settings h =>
    ⟨step_keeps State.numbersLegal_restsOn rfl State.numbersLegal_exec numbers h,
      step_keeps State.counted_restsOn rfl State.counted_exec counters h,
      step_keeps State.settingsInRange_restsOn rfl State.settingsInRange_exec settings h⟩

end Sys2Proof.Machine
end

section
/-! The tables and lists of fixed size hold no more than their size (R51, R99, R100, R120). -/

namespace Sys2Proof.Machine

/-! ## The Pending Pick Table -/

/-- The Pending Pick Table holds no more than 16 entries (R51). -/
def State.tableFits (s : State) : Prop := s.onset.table.length ≤ 16

section Table

variable {s : State}

theorem State.tableFits_restsOn : RestsOn State.tableFits [.table] := by
  intro s t same hs
  have table : t.onset.table = s.onset.table := same .table rfl
  unfold State.tableFits
  rw [table]
  exact hs

theorem State.tableFits_completeAll (hs : s.tableFits) (gap : Option Cause) (es : List Entry) : (s.completeAll gap es).tableFits :=
  State.tableFits_restsOn.of_frame (ps := [.table]) (qs := [.numbers]) (s.completeAll_frame gap es rfl) rfl hs

theorem State.tableFits_sweepTable (hs : s.tableFits) (touch : Entry → Option Entry) : (s.sweepTable touch).tableFits := by
  rw [State.sweepTable_eq]
  exact State.tableFits_completeAll (le_trans (List.length_filterMap_le _ _) hs) _ _

/-- A new entry finds room. -/
theorem State.tableFits_placeEntry (room : s.onset.table.length < 16) (e : Entry) : (s.placeEntry e).tableFits := by
  unfold State.placeEntry
  split
  · exact Nat.le_of_lt room
  · change (s.onset.table ++ [e]).length ≤ 16
    simpa using room

theorem State.detectorFirst_room (room : s.onset.table.length < 16) (e : Entry) :
    (s.detectorFirst e).1.onset.table.length < 16 := by
  unfold State.detectorFirst
  split
  · split
    · exact room
    · exact lt_of_le_of_lt (List.length_eraseIdx_le _ _) room
  · exact room

theorem State.tableFits_createDetectorEntry (hs : s.tableFits) (d : Det) (kind : PickKind) (episode : Nat) (trigger : Ref)
    (reference : Nat) (confirmed : Bool) : (s.createDetectorEntry d kind episode trigger reference confirmed).tableFits := by
  unfold State.createDetectorEntry
  dsimp only
  split
  · exact hs
  · split
    · exact hs
    · rename_i notFull
      have room (l : LastOnset) : (s.onset.setLast d l).table.length < 16 := by simpa using notFull
      split
      · exact Nat.le_of_lt (room _)
      · exact State.tableFits_placeEntry (State.detectorFirst_room (by exact room _) _) _

theorem State.tableFits_popRequest (hs : s.tableFits) (d : Det) : (s.popRequest d).tableFits :=
  State.tableFits_restsOn.of_frame (qs := []) (s.popRequest_frame d) rfl hs

theorem State.tableFits_takePrimary (hs : s.tableFits) (d : Det) : (s.takePrimary d).tableFits := by
  unfold State.takePrimary
  split
  · split
    · exact hs
    · exact State.tableFits_createDetectorEntry (State.tableFits_popRequest hs d) ..
  · exact hs

theorem State.tableFits_takeSecondary (hs : s.tableFits) (d : Det) : (s.takeSecondary d).tableFits := by
  unfold State.takeSecondary
  split
  · split
    · exact hs
    · exact State.tableFits_createDetectorEntry (State.tableFits_popRequest hs d) ..
  · exact hs

theorem State.tableFits_createSignatureEntry (hs : s.tableFits) (q : SigRequest) : (s.createSignatureEntry q).tableFits := by
  unfold State.createSignatureEntry
  dsimp only
  split
  · exact hs
  · split
    · exact hs
    · rename_i notFull
      split
      · exact hs
      · split
        · change (s.onset.table.modify _ _).length ≤ 16
          rw [List.length_modify]
          exact hs
        · exact State.tableFits_placeEntry (Nat.lt_of_not_le notFull) _

theorem State.tableFits_takeSignature (hs : s.tableFits) : s.takeSignature.tableFits := by
  unfold State.takeSignature
  split
  · exact hs
  · split
    · exact hs
    · exact State.tableFits_createSignatureEntry (by exact hs) _

theorem State.tableFits_takeConfirm (hs : s.tableFits) (d : Det) : (s.takeConfirm d).tableFits := by
  unfold State.takeConfirm
  split
  · exact State.tableFits_sweepTable (State.tableFits_popRequest hs d) _
  · exact hs

theorem State.tableFits_takeMarkLong (hs : s.tableFits) (d : Det) : (s.takeMarkLong d).tableFits := by
  unfold State.takeMarkLong
  split
  · exact State.tableFits_sweepTable (State.tableFits_popRequest hs d) _
  · exact hs

theorem State.tableFits_takeCancel (hs : s.tableFits) (d : Det) : (s.takeCancel d).tableFits := by
  unfold State.takeCancel
  split
  · exact le_trans (List.length_filter_le _ _) (State.tableFits_popRequest hs d)
  · exact hs

theorem State.tableFits_onsetTriple (hs : s.tableFits) : s.onsetTriple.tableFits := by
  unfold State.onsetTriple
  split
  · exact State.tableFits_sweepTable (by exact hs) _
  · exact hs

theorem State.tableFits_onsetDiscontinuity (hs : s.tableFits) : s.onsetDiscontinuity.tableFits := by
  unfold State.onsetDiscontinuity
  split
  · exact hs
  · split
    · exact hs
    · exact State.tableFits_completeAll (s := { s with onset := { s.onset with feed := s.onset.feed.takeSignal, table := [] } })
        (Nat.zero_le 16) _ _

theorem State.tableFits_onsetFlush (hs : s.tableFits) : s.onsetFlush.tableFits := by
  unfold State.onsetFlush
  split
  · exact Nat.zero_le 16
  · exact hs

end Table

theorem State.tableFits_exec (c : Instr) (s t : State) : s.tableFits → exec c s = .next t → t.tableFits := by
  refine exec_keeps State.tableFits_restsOn rfl (Nat.zero_le 16) (State.tableFits_restsOn.refused rfl rfl) ?_ c s t
  intro c s t _ touched hs h
  cases c with
  | createPrimary d => exact keeps_live hs h (State.tableFits_takePrimary hs d)
  | createSecondary d => exact keeps_live hs h (State.tableFits_takeSecondary hs d)
  | createSignature => exact keeps_live hs h (State.tableFits_takeSignature hs)
  | confirm d => exact keeps_live hs h (State.tableFits_takeConfirm hs d)
  | cancel d => exact keeps_live hs h (State.tableFits_takeCancel hs d)
  | markLong d => exact keeps_live hs h (State.tableFits_takeMarkLong hs d)
  | onsetTriple => exact keeps_live hs h (State.tableFits_onsetTriple hs)
  | onsetDiscontinuity => exact keeps_live hs h (State.tableFits_onsetDiscontinuity hs)
  | onsetFlush =>
    exact keeps_live hs h (State.tableFits_restsOn.of_frame (qs := [.flushing, .replies]) (State.finishFlush_frame _ rfl rfl) rfl
      (State.tableFits_onsetFlush hs))
  | pinReset | resetnLow | rstr => contradiction
  | _ => cases touched

/-! ## The judgement of a gap -/

/-- The judgement of a gap does nothing, abandons the time, or closes events and clears the note (R112, R113). -/
theorem State.judgeGap_cases (s : State) (t : Nat) : s.judgeGap t = s ∨ s.judgeGap t = s.abandonTime .gapStop ∨
    ∃ (test : Event → Bool) (cause : Event → CloseCause), s.judgeGap t =
      { s.closeWhere test cause with assoc := { (s.closeWhere test cause).assoc with gapNote := none } } := by
  unfold State.judgeGap
  cases s.assoc.gapNote with
  | none => exact .inl rfl
  | some note => exact .inr ((ite_eq_or_eq _ _ _).imp id fun eq => ⟨_, _, eq⟩)

/-! ## The Recent Pick List -/

/-- The Recent Pick List holds no more than 16 picks (R99). -/
def State.recentFits (s : State) : Prop := s.assoc.recent.length ≤ 16

theorem State.recentFits_restsOn : RestsOn State.recentFits [.recent] := by
  intro s t same hs
  have recent : t.assoc.recent = s.assoc.recent := same .recent rfl
  unfold State.recentFits
  rw [recent]
  exact hs

theorem placeRecent_length_le {l : List RecentPick} (h : l.length ≤ 16) (p : RecentPick) : (placeRecent l p).length ≤ 16 := by
  unfold placeRecent
  split
  · rw [List.length_append, List.length_tail, List.length_singleton]
    omega
  · rename_i room
    rw [List.length_append, List.length_singleton]
    exact Nat.lt_of_not_le room

section Recent

variable {s : State}

theorem State.recentFits_associatePick (hs : s.recentFits) : s.associatePick.recentFits := by
  unfold State.associatePick
  split
  · exact hs
  · unfold State.takePick
    split
    · exact hs
    · rename_i p ps _ _
      refine placeRecent_length_le (l := (State.placePick _ p).1.assoc.recent) ?_ _
      exact State.recentFits_restsOn.of_frame (State.placePick_frame _ p) rfl (by exact hs)

theorem State.recentFits_closeWhere (hs : s.recentFits) (test : Event → Bool) (cause : Event → CloseCause) :
    (s.closeWhere test cause).recentFits :=
  State.recentFits_restsOn.of_frame (s.closeWhere_frame test cause) rfl hs

theorem State.recentFits_judgeGap (hs : s.recentFits) (t : Nat) : (s.judgeGap t).recentFits := by
  rcases s.judgeGap_cases t with eq | eq | ⟨test, cause, eq⟩ <;> rw [eq]
  · exact hs
  · exact Nat.zero_le 16
  · exact State.recentFits_closeWhere hs test cause

theorem State.recentFits_associationTriple (hs : s.recentFits) : s.associationTriple.recentFits := by
  unfold State.associationTriple
  split
  · exact State.recentFits_closeWhere (State.recentFits_judgeGap (by exact hs) _) _ _
  · exact hs

theorem State.recentFits_associationTime (hs : s.recentFits) : s.associationTime.recentFits := by
  unfold State.associationTime
  split
  · exact Nat.zero_le 16
  · exact hs

theorem State.recentFits_associationFlush (hs : s.recentFits) : s.associationFlush.recentFits := by
  unfold State.associationFlush
  split
  · exact Nat.zero_le 16
  · exact hs

end Recent

theorem State.recentFits_exec (c : Instr) (s t : State) : s.recentFits → exec c s = .next t → t.recentFits := by
  refine exec_keeps State.recentFits_restsOn rfl (Nat.zero_le 16) (State.recentFits_restsOn.refused rfl rfl) ?_ c s t
  intro c s t _ touched hs h
  cases c with
  | associatePick => exact keeps_live hs h (State.recentFits_associatePick hs)
  | associationTriple => exact keeps_live hs h (State.recentFits_associationTriple hs)
  | associationTime => exact keeps_live hs h (State.recentFits_associationTime hs)
  | associationFlush =>
    exact keeps_live hs h (State.recentFits_restsOn.of_frame (qs := [.flushing, .replies]) (State.finishFlush_frame _ rfl rfl) rfl
      (State.recentFits_associationFlush hs))
  | pinReset | resetnLow | rstr => contradiction
  | _ => cases touched

/-! ## The Event Table -/

/-- The Event Table holds no more than 8 events (R100). -/
def State.eventsFit (s : State) : Prop := s.assoc.events.length ≤ 8

theorem State.eventsFit_restsOn : RestsOn State.eventsFit [.events] := by
  intro s t same hs
  have events : t.assoc.events = s.assoc.events := same .events rfl
  unfold State.eventsFit
  rw [events]
  exact hs

/-- A list that has an element has an oldest event. -/
theorem oldestEvent_lt {evs : List Event} {i : Nat} (h : oldestEvent evs = some i) : i < evs.length := best_lt h

/-- Every event is a candidate. -/
theorem oldestEvent_cons_ne_none (ev : Event) (evs : List Event) : oldestEvent (ev :: evs) ≠ none := by
  have found {l : List Event} (i : Nat) (acc : Nat × Int) :
      bestFrom (fun ev : Event => some (-(ev.first : Int))) l i (some acc) ≠ none := by
    induction l generalizing i acc with
    | nil => exact Option.some_ne_none acc
    | cons a as ih =>
      obtain ⟨j, w⟩ := acc
      simp only [bestFrom]
      split <;> exact ih _ _
  simpa [oldestEvent, best, bestFrom] using found 1 _

section Events

variable {s : State}

theorem State.handReport_events (s : State) (r : EventReport) : (s.handReport r).assoc.events = s.assoc.events := by
  rw [State.handReport_eq]

theorem State.eventsFit_handReport (hs : s.eventsFit) (r : EventReport) : (s.handReport r).eventsFit := by
  unfold State.eventsFit
  rw [State.handReport_events]
  exact hs

theorem State.eventsFit_changeEvent (hs : s.eventsFit) (i : Nat) (f : Event → Event) : (s.changeEvent i f).eventsFit := by
  change (s.assoc.events.modify i f).length ≤ 8
  rw [List.length_modify]
  exact hs

theorem State.eventsFit_closeWhere (hs : s.eventsFit) (test : Event → Bool) (cause : Event → CloseCause) :
    (s.closeWhere test cause).eventsFit := by
  rw [State.closeWhere_eq]
  exact le_trans (List.length_filter_le _ _) hs

theorem State.eventsFit_judgeGap (hs : s.eventsFit) (t : Nat) : (s.judgeGap t).eventsFit := by
  rcases s.judgeGap_cases t with eq | eq | ⟨test, cause, eq⟩ <;> rw [eq]
  · exact hs
  · exact State.eventsFit_closeWhere hs _ _
  · exact State.eventsFit_closeWhere hs test cause

theorem State.eventsFit_associationTriple (hs : s.eventsFit) : s.associationTriple.eventsFit := by
  unfold State.associationTriple
  split
  · exact State.eventsFit_closeWhere (State.eventsFit_judgeGap (by exact hs) _) _ _
  · exact hs

theorem State.eventsFit_associationTime (hs : s.eventsFit) : s.associationTime.eventsFit := by
  unfold State.associationTime
  split
  · exact State.eventsFit_closeWhere (by exact hs) _ _
  · exact hs

theorem State.eventsFit_associationFlush (hs : s.eventsFit) : s.associationFlush.eventsFit := by
  unfold State.associationFlush
  split
  · exact State.eventsFit_closeWhere (by exact hs) _ _
  · exact hs

/-- A full table loses its oldest event; any other stands (R109). -/
theorem State.forceRoom_room (hs : s.eventsFit) : s.forceRoom.assoc.events.length < 8 := by
  unfold State.forceRoom
  split
  · assumption
  · rename_i full
    have full : 8 ≤ s.assoc.events.length := Nat.le_of_not_lt full
    cases found : oldestEvent s.assoc.events with
    | none =>
      obtain ⟨ev, evs, nonempty⟩ := List.exists_cons_of_length_pos (Nat.lt_of_lt_of_le (Nat.succ_pos 7) full)
      exact absurd found (by rw [nonempty]; exact oldestEvent_cons_ne_none ev evs)
    | some i =>
      have place : i < s.assoc.events.length := oldestEvent_lt found
      dsimp only
      rw [List.getElem?_eq_getElem place]
      dsimp only
      rw [State.handReport_events, List.length_eraseIdx_of_lt place]
      unfold State.eventsFit at hs
      omega

theorem State.eventsFit_openEvent (hs : s.eventsFit) (p : Pick) (isP : Bool) : (s.openEvent p isP).eventsFit := by
  have opened (ev : Event) (n : Nat) : State.eventsFit { s.forceRoom with
      assoc := { s.forceRoom.assoc with events := s.forceRoom.assoc.events ++ [ev], nextEvent := n } } := by
    change (s.forceRoom.assoc.events ++ [ev]).length ≤ 8
    simpa using State.forceRoom_room hs
  unfold State.openEvent
  dsimp only
  split
  · exact State.eventsFit_handReport (opened _ _) _
  · exact opened _ _

theorem State.eventsFit_placePick (hs : s.eventsFit) (p : Pick) : (s.placePick p).1.eventsFit := by
  unfold State.placePick State.placeP State.placeS State.placeX
  dsimp only
  split
  · split
    · exact State.eventsFit_changeEvent hs _ _
    · split
      · exact State.eventsFit_changeEvent hs _ _
      · exact State.eventsFit_openEvent hs p true
  · split
    · exact State.eventsFit_changeEvent hs _ _
    · exact State.eventsFit_openEvent hs p false
  · split
    · exact State.eventsFit_changeEvent hs _ _
    · exact hs

theorem State.eventsFit_associatePick (hs : s.eventsFit) : s.associatePick.eventsFit := by
  unfold State.associatePick
  split
  · exact hs
  · unfold State.takePick
    split
    · exact hs
    · exact State.eventsFit_placePick (by exact hs) _

end Events

theorem State.eventsFit_exec (c : Instr) (s t : State) : s.eventsFit → exec c s = .next t → t.eventsFit := by
  refine exec_keeps State.eventsFit_restsOn rfl (Nat.zero_le 8) (State.eventsFit_restsOn.refused rfl rfl) ?_ c s t
  intro c s t _ touched hs h
  cases c with
  | associatePick => exact keeps_live hs h (State.eventsFit_associatePick hs)
  | associationTriple => exact keeps_live hs h (State.eventsFit_associationTriple hs)
  | associationTime => exact keeps_live hs h (State.eventsFit_associationTime hs)
  | associationFlush =>
    exact keeps_live hs h (State.eventsFit_restsOn.of_frame (qs := [.flushing, .replies]) (State.finishFlush_frame _ rfl rfl) rfl
      (State.eventsFit_associationFlush hs))
  | pinReset | resetnLow | rstr => contradiction
  | _ => cases touched

/-! ## The Route Table -/

/-- The Route Table holds 64 entries (R120). -/
def State.routesFit (s : State) : Prop := s.routes.length = 64

theorem State.routesFit_restsOn : RestsOn State.routesFit [.routes] := by
  intro s t same hs
  have routes : t.routes = s.routes := same .routes rfl
  unfold State.routesFit
  rw [routes]
  exact hs

@[simp] theorem writeRoutes_length (routes : List RouteEntry) (i : Nat) (bs : List Byte) :
    (writeRoutes routes i bs).length = routes.length := by
  induction bs generalizing routes i with
  | nil => rfl
  | cons b bs ih => rw [writeRoutes, ih, List.length_set]

theorem State.routesFit_exec (c : Instr) (s t : State) : s.routesFit → exec c s = .next t → t.routesFit := by
  refine exec_keeps State.routesFit_restsOn rfl rfl (State.routesFit_restsOn.refused rfl rfl) ?_ c s t
  intro c s t _ touched hs h
  cases c with
  | rout =>
    refine keeps_message hs h fun m _ _ _ _ => ?_
    unfold takeRout
    split
    · exact hs
    · exact (writeRoutes_length _ _ _).trans hs
  | pinReset | resetnLow | rstr => contradiction
  | _ => cases touched

/-! ## All of them -/

theorem State.tablesBounded_iff (s : State) :
    s.tablesBounded ↔ s.tableFits ∧ s.recentFits ∧ s.eventsFit ∧ s.routesFit := Iff.rfl

theorem State.tablesBounded_step {s t : State} (hs : s.tablesBounded) (h : step s = .next t) : t.tablesBounded := by
  obtain ⟨table, recent, events, routes⟩ := s.tablesBounded_iff.mp hs
  exact ⟨step_keeps State.tableFits_restsOn rfl State.tableFits_exec table h,
    step_keeps State.recentFits_restsOn rfl State.recentFits_exec recent h,
    step_keeps State.eventsFit_restsOn rfl State.eventsFit_exec events h,
    step_keeps State.routesFit_restsOn rfl State.routesFit_exec routes h⟩

end Sys2Proof.Machine
end

section
/-! The reply queue and the inbound buffer hold no more than their size (R160, R162, R168). -/

namespace Sys2Proof.Machine

/-! ## The reply queue -/

theorem State.repliesBounded_restsOn : RestsOn State.repliesBounded [.replies, .flushing] := by
  intro s t same hs
  have replies : t.link.replies = s.link.replies := same .replies rfl
  have flushing : t.flushing = s.flushing := same .flushing rfl
  unfold State.repliesBounded
  rw [replies, flushing]
  exact hs

/-- A reply placed where there is room, with no FLSH being decoded. -/
theorem repliesBounded_of_room {t : State} {n : Nat} (room : n < 8) (length : t.link.replies.length ≤ n + 1)
    (notFlushing : t.flushing = false) : t.repliesBounded := by
  unfold State.repliesBounded
  rw [notFlushing, if_neg (by decide)]
  omega

/-- A message answered: at most one reply more, and no FLSH begun. -/
def Answered (s t : State) : Prop := t.link.replies.length ≤ s.link.replies.length + 1 ∧ t.flushing = s.flushing

/-- Work that leaves the replies, and then a reply. -/
theorem Answered.reply {s u : State} {ps : List Part} (work : Frame ps s u) (replies : ps.contains .replies = false)
    (flushing : ps.contains .flushing = false) (r : Reply) : Answered s (u.reply r) := by
  have same : u.link.replies = s.link.replies := work.same .replies replies
  refine ⟨?_, work.same .flushing flushing⟩
  rw [State.reply_link, List.length_append, same, List.length_singleton]

theorem Answered.refused (s : State) (r : Reply) : Answered s (s.reply r) := .reply (.refl [] s) rfl rfl r

/-- A message that is answered once keeps the replies within bounds. -/
theorem keeps_replies {wanted : InMsg → Bool} {owners : InMsg → State → Bool} {take : InMsg → State → State} {s t : State}
    (hs : s.repliesBounded) (h : (Host.Outcome.next (s.live fun s => s.decode wanted owners take) : Answer) = .next t)
    (each : ∀ m s, Answered s (take m s)) : t.repliesBounded :=
  keeps_message hs h fun m _ notFlushing _ room => by
    obtain ⟨length, flushing⟩ := each m s.popMessage
    exact repliesBounded_of_room room (by simpa using length) (flushing.trans notFlushing)

theorem answered_action {act : InMsg → State → State} (need : Nat) (each : ∀ m s, Answered s (act m s)) (m : InMsg) (s : State) :
    Answered s (action need act m s) := by
  unfold action
  split
  · exact .refused s _
  · exact each m s

theorem answered_takeInpt (m : InMsg) (s : State) : Answered s (takeInpt m s) := by
  unfold takeInpt
  split
  · exact ⟨Nat.le_of_eq List.length_append, rfl⟩
  · exact .refused s _

theorem answered_takeRun (m : InMsg) (s : State) : Answered s (takeRun m s) := by
  unfold takeRun
  split
  · exact ⟨Nat.le_of_eq List.length_append, rfl⟩
  · exact .refused s _

theorem State.stopInput_frame (s : State) : Frame [.feeds] s s.stopInput := by
  unfold State.stopInput
  dsimp only
  split
  · exact frame_port rfl
  · intro p
    cases p with
    | feeds => exact .inl rfl
    | _ => exact .inr rfl

theorem answered_takeRout (m : InMsg) (s : State) : Answered s (takeRout m s) := by
  unfold takeRout
  split
  · exact .refused s _
  · exact ⟨Nat.le_of_eq List.length_append, rfl⟩

theorem answered_takeQset (m : InMsg) (s : State) : Answered s (takeQset m s) := by
  unfold takeQset
  dsimp only
  split
  · exact .refused s _
  · split
    · exact .refused s _
    · rename_i i _
      exact .reply (s.putQueue_frame_settings (ps := [.queues, .settings]) i ((s.queues.get i).applyQset _) rfl rfl rfl) rfl rfl _

theorem answered_takeGrnt (m : InMsg) (s : State) : Answered s (takeGrnt m s) := by
  unfold takeGrnt
  split
  · exact .refused s _
  · rename_i i _
    exact .reply (s.putQueue_frame_records (ps := [.queues]) i ((s.queues.get i).grant _) rfl rfl rfl rfl) rfl rfl _

theorem answered_takeQrst (m : InMsg) (s : State) : Answered s (takeQrst m s) := by
  unfold takeQrst
  split
  · exact .refused s _
  · dsimp only
    rw [State.freeSlots_eq]
    exact ⟨Nat.le_of_eq List.length_append, rfl⟩

theorem answered_takeSigw (m : InMsg) (s : State) : Answered s (takeSigw m s) := by
  unfold takeSigw
  dsimp only
  split
  · exact .refused s _
  · split
    · exact .refused s _
    · exact ⟨Nat.le_of_eq List.length_append, rfl⟩

theorem answered_takeSige (m : InMsg) (s : State) : Answered s (takeSige m s) := by
  unfold takeSige
  split
  · exact .refused s _
  · split
    · exact .refused s _
    · exact ⟨Nat.le_of_eq List.length_append, rfl⟩

theorem answered_takeSigd (m : InMsg) (s : State) : Answered s (takeSigd m s) := by
  unfold takeSigd
  split
  · exact .refused s _
  · dsimp only
    split
    · exact .refused s _
    · exact .refused s _
    · exact ⟨Nat.le_of_eq List.length_append, rfl⟩

/-- The ACKN of an FLSH takes the place kept for it (R180). -/
theorem State.repliesBounded_finishFlush {s : State} (hs : s.repliesBounded) : s.finishFlush.repliesBounded := by
  rcases s.finishFlush_cases with eq | ⟨flushing, eq⟩ <;> rw [eq]
  · exact hs
  · unfold State.repliesBounded at hs ⊢
    rw [flushing, if_pos rfl] at hs
    simpa using hs

theorem State.repliesBounded_of_frame {ps : List Part} {s t : State} (frame : Frame ps s t) (replies : ps.contains .replies = false)
    (flushing : ps.contains .flushing = false) (hs : s.repliesBounded) : t.repliesBounded :=
  State.repliesBounded_restsOn.of_frame frame (by simp only [List.all_cons, List.all_nil, replies, flushing]; rfl) hs

theorem State.repliesBounded_sendReply {s : State} (hs : s.repliesBounded) (r : Reply) : (s.sendReply r).repliesBounded := by
  unfold State.repliesBounded at hs ⊢
  change s.link.replies.tail.length + (if s.flushing then 1 else 0) ≤ 8
  rw [List.length_tail]
  omega

theorem State.repliesBounded_exec (c : Instr) (s t : State) : s.repliesBounded → exec c s = .next t → t.repliesBounded := by
  refine exec_keeps State.repliesBounded_restsOn rfl (Nat.zero_le 8) ?_ ?_ c s t
  · intro s m _ oldest room
    exact repliesBounded_of_room room (by simp) (State.oldestMessage_some oldest).2.2
  intro c s t _ touched hs h
  cases c with
  | detectorFlush d => exact keeps_live hs h (State.repliesBounded_finishFlush
      (State.repliesBounded_of_frame (s.detectorSignal_frame d _) rfl rfl hs))
  | onsetFlush => exact keeps_live hs h (State.repliesBounded_finishFlush
      (State.repliesBounded_of_frame s.onsetFlush_frame rfl rfl hs))
  | signatureFlush => exact keeps_live hs h (State.repliesBounded_finishFlush
      (State.repliesBounded_of_frame (s.bankSignal_frame _) rfl rfl hs))
  | associationFlush => exact keeps_live hs h (State.repliesBounded_finishFlush
      (State.repliesBounded_of_frame s.associationFlush_frame rfl rfl hs))
  | snippetDiscontinuity => exact keeps_live hs h (State.repliesBounded_finishFlush
      (State.repliesBounded_of_frame s.snippetSignal_frame rfl rfl hs))
  | ackn =>
    refine keeps_live hs h ?_
    unfold State.takeAckn
    split
    · exact State.repliesBounded_sendReply hs _
    · exact hs
  | rfsd =>
    refine keeps_live hs h ?_
    unfold State.takeRfsd
    split
    · exact State.repliesBounded_sendReply hs _
    · exact hs
  | strp =>
    refine keeps_live hs h ?_
    unfold State.takeStrp
    split
    · exact State.repliesBounded_sendReply hs _
    · exact hs
  | cntp =>
    refine keeps_live hs h ?_
    unfold State.takeCntp
    split
    · exact State.repliesBounded_sendReply hs _
    · exact hs
  | unknownCode => exact keeps_replies hs h fun _ s => .refused s _
  | flsh =>
    refine keeps_message hs h fun m _ notFlushing _ room => ?_
    unfold action
    split
    · exact repliesBounded_of_room room (by simp) notFlushing
    · unfold State.repliesBounded
      change (s.popMessage.link.replies).length + (if true = true then 1 else 0) ≤ 8
      simpa using room
  | stat => exact keeps_replies hs h (answered_action 0 fun _ s => .refused s _)
  | cntr => exact keeps_replies hs h (answered_action 1 fun _ _ => ⟨Nat.le_of_eq List.length_append, rfl⟩)
  | inpt => exact keeps_replies hs h answered_takeInpt
  | run => exact keeps_replies hs h (answered_action 0 answered_takeRun)
  | stop => exact keeps_replies hs h (answered_action 0 fun _ s => .reply s.stopInput_frame rfl rfl _)
  | dets => exact keeps_replies hs h fun _ _ => ⟨Nat.le_of_eq List.length_append, rfl⟩
  | onst => exact keeps_replies hs h fun _ _ => ⟨Nat.le_of_eq List.length_append, rfl⟩
  | phas => exact keeps_replies hs h fun _ _ => ⟨Nat.le_of_eq List.length_append, rfl⟩
  | evts => exact keeps_replies hs h fun _ _ => ⟨Nat.le_of_eq List.length_append, rfl⟩
  | rout => exact keeps_replies hs h answered_takeRout
  | qset => exact keeps_replies hs h answered_takeQset
  | grnt => exact keeps_replies hs h (answered_action 2 answered_takeGrnt)
  | qrst => exact keeps_replies hs h (answered_action 1 answered_takeQrst)
  | snip => exact keeps_replies hs h fun _ _ => ⟨Nat.le_of_eq List.length_append, rfl⟩
  | sigw => exact keeps_replies hs h answered_takeSigw
  | sige => exact keeps_replies hs h (answered_action 8 answered_takeSige)
  | sigd => exact keeps_replies hs h (answered_action 1 answered_takeSigd)
  | pinReset | resetnLow | rstr => contradiction
  | _ => cases touched

/-! ## The inbound buffer -/

theorem State.inboxBounded_restsOn : RestsOn State.inboxBounded [.inbox] := by
  intro s t same hs
  have inbox : t.link.inbox = s.link.inbox := same .inbox rfl
  unfold State.inboxBounded LinkPort.fill
  rw [inbox]
  exact hs

/-- The bytes that a run of messages takes. -/
def inboxBytes (ms : List InMsg) : Nat := (ms.map InMsg.bytes).sum

theorem State.inboxBounded_iff (s : State) : s.inboxBounded ↔ inboxBytes s.link.inbox ≤ 256 := Iff.rfl

theorem inboxBytes_append (ms : List InMsg) (m : InMsg) : inboxBytes (ms ++ [m]) = inboxBytes ms + m.bytes := by
  simp [inboxBytes]

theorem inboxBytes_tail_le (ms : List InMsg) : inboxBytes ms.tail ≤ inboxBytes ms := by
  cases ms with
  | nil => exact Nat.le_refl 0
  | cons m ms => simp [inboxBytes]

/-- The message in progress is the last in the buffer. -/
theorem LinkPort.inProgress_last {l : LinkPort} {m : InMsg} (h : l.inProgress = some m) :
    l.inbox = l.inbox.dropLast ++ [m] ∧ m.status = .inProgress := by
  unfold LinkPort.inProgress at h
  split at h
  · cases h
  · rename_i last
    split at h
    · cases h
      exact ⟨(List.dropLast_append_getLast? _ last).symm, by assumption⟩
    · cases h

/-- The buffer with its message in progress changed. -/
theorem inboxBytes_setLast {l : LinkPort} {m : InMsg} (h : l.inProgress = some m) (m' : InMsg) :
    inboxBytes (l.setLast m').inbox + m.bytes = inboxBytes l.inbox + m'.bytes := by
  have whole := congrArg inboxBytes (LinkPort.inProgress_last h).1
  rw [inboxBytes_append] at whole
  change inboxBytes (l.inbox.dropLast ++ [m']) + m.bytes = _
  rw [inboxBytes_append]
  omega

theorem State.breakMessage_bytes (s : State) : inboxBytes s.breakMessage.link.inbox = inboxBytes s.link.inbox := by
  unfold State.breakMessage
  split
  · rfl
  · rename_i m found
    have change := inboxBytes_setLast found { m with status := .broken }
    exact Nat.add_right_cancel change

theorem State.inboxBounded_breakMessage {s : State} (hs : s.inboxBounded) : s.breakMessage.inboxBounded := by
  rw [State.inboxBounded_iff, State.breakMessage_bytes]
  exact hs

/-- One more character of a message takes one more byte. -/
theorem InMsg.take_bytes (m : InMsg) (b : Byte) : (m.take b).bytes = m.bytes + 1 := by
  unfold InMsg.take InMsg.bytes
  cases length : m.length with
  | none =>
    simp
    omega
  | some n => simp; omega

section Inbox

variable {s : State}

theorem State.not_full (h : ¬s.link.full = true) : inboxBytes s.link.inbox < 256 := by
  unfold LinkPort.full at h
  exact Nat.lt_of_not_le fun full => h (decide_eq_true full)

theorem State.inboxBounded_opener (hs : s.inboxBounded) (code : Byte) : (s.opener code).inboxBounded := by
  unfold State.opener
  dsimp only
  split
  · exact State.inboxBounded_breakMessage hs
  · rename_i room
    rw [State.inboxBounded_iff, LinkPort.afterStore_inbox, inboxBytes_append]
    exact State.not_full room

theorem State.inboxBounded_dataCharacter (hs : s.inboxBounded) (b : Byte) : (s.dataCharacter b).inboxBounded := by
  unfold State.dataCharacter
  split
  · exact hs
  · rename_i m found
    split
    · exact State.inboxBounded_breakMessage (by exact hs)
    · rename_i room
      have room := State.not_full room
      have grown := inboxBytes_setLast found (m.take b)
      rw [InMsg.take_bytes] at grown
      rw [State.inboxBounded_iff, LinkPort.afterStore_inbox]
      omega

theorem State.inboxBounded_framingError (hs : s.inboxBounded) : s.framingError.inboxBounded :=
  State.inboxBounded_breakMessage (by exact hs)

theorem State.inboxBounded_linkCharacter (hs : s.inboxBounded) (mark : Bool) (b : Byte) (stop : Bool) :
    (s.linkCharacter mark b stop).inboxBounded := by
  unfold State.linkCharacter State.takeCharacter
  split
  · exact hs
  · split
    · split
      · split
        · exact hs
        · split
          · exact State.inboxBounded_restsOn.of_frame (qs := [])
              (frame_link s.link.release_keeps.1 s.link.release_keeps.2) rfl hs
          · exact State.inboxBounded_opener hs b
      · exact State.inboxBounded_dataCharacter hs b
    · split
      · exact hs
      · exact State.inboxBounded_framingError hs

theorem State.inboxBounded_lineBreak (hs : s.inboxBounded) : s.lineBreak.inboxBounded := by
  unfold State.lineBreak
  split
  · exact hs
  · exact State.inboxBounded_breakMessage hs

theorem State.inboxBounded_returnToMark (hs : s.inboxBounded) : s.returnToMark.inboxBounded := by
  unfold State.returnToMark
  dsimp only
  split
  · exact hs
  · exact State.inboxBounded_framingError hs
  · exact hs

theorem State.inboxBounded_popMessage (hs : s.inboxBounded) : s.popMessage.inboxBounded := by
  rw [State.inboxBounded_iff, State.popMessage_link, LinkPort.afterDecode_inbox]
  exact le_trans (inboxBytes_tail_le _) hs

end Inbox

/-- A message taken leaves the buffer, whatever it does (R160). -/
theorem keeps_inbox {wanted : InMsg → Bool} {owners : InMsg → State → Bool} {take : InMsg → State → State} {s t : State}
    {ps : List Part} (hs : s.inboxBounded)
    (h : (Host.Outcome.next (s.live fun s => s.decode wanted owners take) : Answer) = .next t)
    (each : ∀ m s, Frame ps s (take m s)) (inbox : ps.contains .inbox = false) : t.inboxBounded :=
  keeps_message hs h fun m _ _ _ _ =>
    State.inboxBounded_restsOn.of_frame (each m _) (by simp only [List.all_cons, List.all_nil, inbox]; rfl) (State.inboxBounded_popMessage hs)

theorem State.inboxBounded_exec (c : Instr) (s t : State) : s.inboxBounded → exec c s = .next t → t.inboxBounded := by
  refine exec_keeps State.inboxBounded_restsOn rfl (Nat.zero_le 256) ?_ ?_ c s t
  · intro s m hs _ _
    exact State.inboxBounded_popMessage hs
  intro c s t _ touched hs h
  cases c with
  | linkCharacter mark b stop => exact keeps_live hs h (State.inboxBounded_linkCharacter hs mark b stop)
  | lineBreak => exact keeps_live hs h (State.inboxBounded_lineBreak hs)
  | lineReturnsToMark => exact keeps_live hs h (State.inboxBounded_returnToMark hs)
  | unknownCode => exact keeps_inbox hs h (fun m s => s.reply_frame (ps := [.replies]) _ rfl) rfl
  | flsh => exact keeps_inbox hs h (frame_action 0 takeFlsh_frame · · rfl) rfl
  | stat => exact keeps_inbox hs h (frame_action (ps := [.replies]) 0 (fun _ s => s.reply_frame _ rfl) · · rfl) rfl
  | cntr => exact keeps_inbox hs h (frame_action 1 takeCntr_frame · · rfl) rfl
  | inpt => exact keeps_inbox hs h takeInpt_frame rfl
  | run => exact keeps_inbox hs h (frame_action 0 takeRun_frame · · rfl) rfl
  | stop => exact keeps_inbox hs h (frame_action 0 takeStop_frame · · rfl) rfl
  | dets => exact keeps_inbox hs h takeDets_frame rfl
  | onst => exact keeps_inbox hs h takeOnst_frame rfl
  | phas => exact keeps_inbox hs h takePhas_frame rfl
  | evts => exact keeps_inbox hs h takeEvts_frame rfl
  | rout => exact keeps_inbox hs h takeRout_frame rfl
  | qset => exact keeps_inbox hs h takeQset_frame rfl
  | grnt => exact keeps_inbox hs h (frame_action 2 takeGrnt_frame · · rfl) rfl
  | qrst => exact keeps_inbox hs h (frame_action 1 takeQrst_frame · · rfl) rfl
  | snip => exact keeps_inbox hs h takeSnip_frame rfl
  | sigw => exact keeps_inbox hs h takeSigw_frame rfl
  | sige => exact keeps_inbox hs h (frame_action 8 takeSige_frame · · rfl) rfl
  | sigd => exact keeps_inbox hs h (frame_action 1 takeSigd_frame · · rfl) rfl
  | pinReset | resetnLow | rstr => contradiction
  | _ => cases touched

end Sys2Proof.Machine
end

section
/-! The Report Pool holds no more than 96 records (R123 to R125): what eviction frees, and what the arbiter's choice says of a
queue. -/

namespace Sys2Proof

/-- A sum over the four queues, one of them replaced. -/
theorem Four.sum_set {α : Type} (f : Four α) (g : α → Nat) (i : Fin 4) (a : α) :
    ((f.set i a).map g).toList.sum + g (f.get i) = (f.map g).toList.sum + g a := by
  obtain ⟨w, x, y, z⟩ := f
  match i with
  | 0 | 1 | 2 | 3 => simp [Four.map, Four.set, Four.get, Four.toList]; omega

namespace Machine

/-! ## Records held -/

/-- The records of the four queues say how many the pool holds. -/
theorem State.poolHeld_eq (s : State) : s.poolHeld = ((s.queues.map Queue.records).map List.length).toList.sum := rfl

theorem State.poolHeld_congr {s t : State} (h : ∀ j, (t.queues.get j).records = (s.queues.get j).records) : t.poolHeld = s.poolHeld := by
  rw [State.poolHeld_eq, State.poolHeld_eq, Four.ext_get (f := t.queues.map Queue.records) (g := s.queues.map Queue.records)]
  intro j
  rw [Four.get_map, Four.get_map, h j]

theorem State.poolBounded_restsOn : RestsOn State.poolBounded [.records] := by
  intro s t same hs
  have records : t.queues.map Queue.records = s.queues.map Queue.records := same .records rfl
  unfold State.poolBounded
  rw [State.poolHeld_eq, records]
  exact hs

/-- The pool with a queue's records changed. -/
theorem State.poolHeld_change {s t : State} (i : Fin 4) {rs : List Record}
    (h : ∀ j, (t.queues.get j).records = if j = i then rs else (s.queues.get j).records) :
    t.poolHeld + (s.queues.get i).records.length = s.poolHeld + rs.length := by
  have same : t.queues.map Queue.records = (s.queues.map Queue.records).set i rs := by
    apply Four.ext_get
    intro j
    rw [Four.get_map, Four.get_set, Four.get_map]
    exact h j
  have sum := (s.queues.map Queue.records).sum_set List.length i rs
  rw [Four.get_map, ← same] at sum
  exact sum

theorem State.poolHeld_putQueue (s : State) (i : Fin 4) (q : Queue) :
    (s.putQueue i q).poolHeld + (s.queues.get i).records.length = s.poolHeld + q.records.length :=
  State.poolHeld_change i fun j => s.putQueue_records i j q

/-! ## Eviction (R125) -/

/-- Victims are found until the lack is met or none is left. -/
theorem evictFrom_frees (n N : Nat) (rs : List Record) : min n (evictFrom N rs).2.length ≤ (evictFrom n rs).2.length := by
  fun_induction evictFrom n rs generalizing N with
  | case1 rs => omega
  | case2 n => cases N <;> exact Nat.min_le_right _ _
  | case3 n p sl k rs stay out eq ih =>
    cases N with
    | zero => simp
    | succ N =>
      have h := ih (N - 1)
      rw [eq] at h
      simp only [evictFrom, List.length_cons] at h ⊢
      omega
  | case4 n p rs notItem stay out eq ih =>
    cases N with
    | zero => simp
    | succ N =>
      have h := ih N
      rw [eq] at h
      rw [evictFrom.eq_4 _ _ _ notItem]
      simp only [List.length_cons] at h ⊢
      omega
  | case5 n r rs stay out eq ih =>
    cases N with
    | zero => simp
    | succ N =>
      have h := ih N
      rw [eq] at h
      simp only [evictFrom, List.length_cons] at h ⊢
      omega
  | case6 n sl rs stay out eq ih =>
    cases N with
    | zero => simp
    | succ N =>
      have h := ih N
      rw [eq] at h
      simp only [evictFrom, if_pos, List.length_cons] at h ⊢
      omega
  | case7 n sl k rs sent stay out eq ih =>
    cases N with
    | zero => simp
    | succ N =>
      have h := ih (N + 1)
      rw [eq] at h
      simp only [evictFrom, if_neg sent] at h ⊢
      exact h

/-- Every record that could be freed is, or the lack is met. -/
theorem freeable_le (n : Nat) (rs : List Record) : min n (freeable rs) ≤ (evictFrom n rs).2.length := evictFrom_frees n _ rs

theorem freeSlots_queues (s : State) (ns : List (Fin 8)) : (s.freeSlots ns).queues = s.queues := by rw [State.freeSlots_eq]

theorem State.loseOn_records (s : State) (i j : Fin 4) (k : Nat) :
    ((s.loseOn i k).queues.get j).records = (s.queues.get j).records := by
  by_cases h : k = 0
  · rw [h]; rfl
  · rw [State.loseOn_eq _ _ _ h]
    simp only [Four.get_set]
    split
    · subst j; rfl
    · rfl

/-- A queue from which nothing is evicted keeps its records. -/
theorem evictFrom_stay {n : Nat} {rs : List Record} (h : (evictFrom n rs).2 = []) : (evictFrom n rs).1 = rs :=
  (evictFrom_sublist n rs).eq_of_length (by simpa [h] using evictFrom_length n rs)

/-- Eviction from a queue leaves it the records that stay, and every other queue its own. -/
theorem State.evictQueue_records (s : State) (i j : Fin 4) (n : Nat) : ((s.evictQueue i n).queues.get j).records =
    if j = i then (evictFrom n (s.queues.get i).records).1 else (s.queues.get j).records := by
  unfold State.evictQueue
  dsimp only
  split
  · rename_i none
    rw [List.isEmpty_iff] at none
    rw [evictFrom_stay none]
    split
    · subst j; rfl
    · rfl
  · simp only [State.putQueue_records, Queue.settle_records, State.loseOn_records, freeSlots_queues, Four.get_set]
    split <;> rfl

/-- What is evicted leaves the pool. -/
theorem State.poolHeld_evictQueue (s : State) (i : Fin 4) (n : Nat) :
    (s.evictQueue i n).poolHeld + (evictFrom n (s.queues.get i).records).2.length = s.poolHeld := by
  have change := State.poolHeld_change i fun j => s.evictQueue_records i j n
  have parts := evictFrom_length n (s.queues.get i).records
  omega

/-- Eviction in list order frees what is lacking, as far as the victims reach. -/
theorem State.evictAll_frees (s : State) (is : List (Fin 4)) (distinct : is.Nodup) (lack : Nat) :
    (s.evictAll is lack).poolHeld + min lack (is.map fun j => freeable (s.queues.get j).records).sum ≤ s.poolHeld := by
  induction is generalizing s lack with
  | nil => exact Nat.le_of_eq (by simp [State.evictAll])
  | cons i is ih =>
    obtain ⟨notIn, distinct⟩ := List.nodup_cons.mp distinct
    have rest := ih (s.evictQueue i lack) distinct (lack - (evictFrom lack (s.queues.get i).records).2.length)
    have others : (is.map fun j => freeable ((s.evictQueue i lack).queues.get j).records) =
        is.map fun j => freeable (s.queues.get j).records :=
      List.map_congr_left fun j hj => by rw [State.evictQueue_records, if_neg (ne_of_mem_of_not_mem hj notIn)]
    rw [others] at rest
    have freed := s.poolHeld_evictQueue i lack
    have reach := freeable_le lack (s.queues.get i).records
    rw [State.evictAll, List.map_cons, List.sum_cons]
    omega

theorem victimQueues_nodup (i : Fin 4) : (victimQueues i).Nodup := List.Nodup.filter _ (by decide)

/-- Room made is room (R124, R125). -/
theorem State.makeRoom_room {s u : State} {i : Fin 4} {n : Nat} (h : s.makeRoom i n = some u) : u.poolHeld + n ≤ 96 := by
  rcases s.makeRoom_cases i n with ⟨room, eq⟩ | ⟨full, victims, eq⟩ | ⟨-, -, eq⟩ <;> rw [eq] at h <;> cases h
  · exact room
  · have freed := s.evictAll_frees (victimQueues i) (victimQueues_nodup i) (s.poolHeld + n - 96)
    omega

theorem State.poolHeld_accept (s : State) (i : Fin 4) (rs : List Record) : (s.accept i rs).poolHeld = s.poolHeld + rs.length := by
  have change := s.poolHeld_putQueue i ((s.queues.get i).accept rs)
  rw [Queue.accept_records, List.length_append] at change
  unfold State.accept
  omega

theorem State.poolHeld_loseOn (s : State) (i : Fin 4) (k : Nat) : (s.loseOn i k).poolHeld = s.poolHeld :=
  State.poolHeld_congr fun j => s.loseOn_records i j k

theorem State.poolHeld_takeSlot (s : State) (n : Fin 8) (p : Pick) : (s.takeSlot n p).poolHeld = s.poolHeld := by
  obtain ⟨k, eq⟩ := s.takeSlot_eq n p
  rw [eq]
  rfl

/-! ## The arbiter's choice -/

/-- A record chosen is the head of a queue that is ready, has credit, and can send it (R134, R172). -/
theorem State.choice_record {s : State} {i : Fin 4} {r : Record} (h : s.choice = some (.record i r)) :
    (s.queues.get i).records.head? = some r ∧ (s.queues.get i).ready = true ∧ 0 < (s.queues.get i).credits ∧
      s.snips.canSend r = true := by
  have offered : s.offered i = some r := by
    unfold State.choice at h
    split at h
    · split at h <;> try cases h
      obtain ⟨⟨j, r'⟩, found, eq⟩ := Option.map_eq_some_iff.mp h
      cases eq
      obtain ⟨j, -, eq⟩ := List.exists_of_findSome?_eq_some found
      obtain ⟨r', offered, eq⟩ := Option.map_eq_some_iff.mp eq
      cases eq
      exact offered
    · cases h
  unfold State.offered at offered
  dsimp only at offered
  split at offered
  · rename_i ready
    simp only [Bool.and_eq_true, decide_eq_true_eq] at ready
    obtain ⟨head, can⟩ := Option.filter_eq_some_iff.mp offered
    exact ⟨head, ready.1, ready.2, can⟩
  · cases offered

/-- A head taken leaves its queue. -/
theorem State.takeHead_records (s : State) (i j : Fin 4) : ((s.takeHead i).queues.get j).records =
    if j = i then (s.queues.get i).records.tail else (s.queues.get j).records := by
  unfold State.takeHead
  rw [State.putQueue_records, Queue.settle_records]

/-- A snippet item leaves its queue at LAST, and counts its segments before. -/
theorem State.takeSegment_records (s : State) (i j : Fin 4) (n : Fin 8) (k : Nat) :
    ((s.takeSegment i n k).queues.get j).records =
      if j = i then (if (s.snips.slots.get n).isLast k then (s.queues.get i).records.tail
        else .item n (k + 1) :: (s.queues.get i).records.tail) else (s.queues.get j).records := by
  unfold State.takeSegment
  dsimp only
  split
  · rw [State.putQueue_records, Queue.settle_records]
    rfl
  · rw [State.putQueue_records]

section Pool

variable {s : State}

theorem State.poolBounded_arriveOne (hs : s.poolBounded) (i : Fin 4) (r : Record) : (s.arriveOne i r).poolBounded := by
  unfold State.arriveOne State.poolBounded
  split
  · rw [State.poolHeld_loseOn]
    exact hs
  · rename_i u room
    have held := State.makeRoom_room room
    rw [State.poolHeld_accept, List.length_singleton]
    omega

theorem poolBounded_queueArrival {t : State} (hs : s.poolBounded) (h : execQueueArrival s = .next t) : t.poolBounded := by
  unfold execQueueArrival at h
  split at h
  · cases h; exact hs
  · split at h
    · cases h
      exact State.poolBounded_arriveOne (by exact hs) _ _
    · split at h
      · split at h
        · cases h; exact hs
        · unfold State.arriveSnippet at h
          split at h
          · cases h
            unfold State.poolBounded
            rw [State.poolHeld_loseOn]
            exact hs
          · rename_i room
            have held := State.makeRoom_room room
            split at h
            · cases h
            · cases h
              unfold State.poolBounded
              rw [State.poolHeld_accept, State.poolHeld_takeSlot, List.length_cons, List.length_singleton]
              omega
      · cases h
        exact State.poolBounded_arriveOne (by exact hs) _ _
    · cases h; exact hs

theorem State.poolBounded_takeHead (hs : s.poolBounded) (i : Fin 4) : (s.takeHead i).poolBounded := by
  have change := State.poolHeld_change i fun j => s.takeHead_records i j
  rw [List.length_tail] at change
  unfold State.poolBounded at hs ⊢
  omega

theorem State.poolBounded_takeSegment (hs : s.poolBounded) (i : Fin 4) (n : Fin 8) (k : Nat)
    (head : (s.queues.get i).records.head? = some (.item n k)) : (s.takeSegment i n k).poolBounded := by
  have nonempty : 0 < (s.queues.get i).records.length := by
    cases records : (s.queues.get i).records with
    | nil => rw [records] at head; cases head
    | cons r rs => exact Nat.succ_pos _
  have change := State.poolHeld_change i fun j => s.takeSegment_records i j n k
  have shorter : (if (s.snips.slots.get n).isLast k then (s.queues.get i).records.tail
      else .item n (k + 1) :: (s.queues.get i).records.tail).length ≤ (s.queues.get i).records.length := by
    split
    · exact (List.tail_sublist _).length_le
    · rw [List.length_cons, List.length_tail]
      omega
  unfold State.poolBounded at hs ⊢
  omega

theorem State.poolBounded_takeQrst (hs : s.poolBounded) (m : InMsg) : (takeQrst m s).poolBounded := by
  unfold takeQrst
  split
  · exact hs
  · rename_i i _
    have change := State.poolHeld_change (s := s)
      (t := { s.freeSlots (slotsOf (s.queues.get i).records) with queues := s.queues.set i (s.queues.get i).empty }) i
      (rs := []) fun j => by
        rw [Four.get_set]
        split <;> rfl
    unfold State.poolBounded at hs ⊢
    dsimp only
    exact le_trans (Nat.le_of_add_right_le (Nat.le_of_eq change)) hs

end Pool

theorem State.poolBounded_exec (c : Instr) (s t : State) : s.poolBounded → exec c s = .next t → t.poolBounded := by
  refine exec_keeps State.poolBounded_restsOn rfl (Nat.zero_le 96) (State.poolBounded_restsOn.refused rfl rfl) ?_ c s t
  intro c s t _ touched hs h
  cases c with
  | queueArrival => exact poolBounded_queueArrival hs h
  | pick =>
    refine keeps_live hs h ?_
    unfold State.takePickRecord
    split
    · exact State.poolBounded_takeHead hs _
    · exact hs
  | evnt =>
    refine keeps_live hs h ?_
    unfold State.takeEvntRecord
    split
    · exact State.poolBounded_takeHead hs _
    · exact hs
  | segm =>
    refine keeps_live hs h ?_
    unfold State.takeSegmRecord
    split
    · rename_i chosen
      exact State.poolBounded_takeSegment hs _ _ _ (State.choice_record chosen).1
    · exact hs
  | qrst =>
    refine keeps_message hs h fun m _ _ _ _ => ?_
    unfold action
    split
    · exact hs
    · exact State.poolBounded_takeQrst (by exact hs) m
  | pinReset | resetnLow | rstr => contradiction
  | _ => cases touched

/-- Settles O54: each store has its own bound, kept by the commands that reach it: the pool because room is made before an arrival
is admitted, the replies because no message is decoded without a free place, the buffer because no character is stored in a full
one. -/
theorem stepsKeepTheStoresBounded : Obligations.StepsKeepTheStoresBounded :=
  fun _ _ pool tables replies inbox h =>
    ⟨step_keeps State.poolBounded_restsOn rfl State.poolBounded_exec pool h,
      State.tablesBounded_step tables h,
      step_keeps State.repliesBounded_restsOn rfl State.repliesBounded_exec replies h,
      step_keeps State.inboxBounded_restsOn rfl State.inboxBounded_exec inbox h⟩

end Machine
end Sys2Proof
end

section
/-! A snippet slot that is not FREE is named by exactly one snippet item, and a pick routed with one finds a FREE slot (R141, R142). -/

namespace Sys2Proof

/-- Counting in the flattening of four lists. -/
theorem Four.count_flatten {α : Type} [DecidableEq α] (f : Four (List α)) (a : α) :
    f.toList.flatten.count a = (f.map fun l => l.count a).toList.sum := by
  simp [Four.toList, Four.map, List.count_append]

namespace Machine

/-! ## What the snippet items name -/

/-- The items that name slot `n`, queue by queue. -/
theorem State.itemSlots_count (s : State) (n : Fin 8) :
    s.itemSlots.count n = ((s.queues.map Queue.records).map fun rs => (slotsOf rs).count n).toList.sum :=
  Four.count_flatten _ n

/-- The items that name a slot, after a queue's records are changed. -/
theorem State.itemSlots_change {s t : State} (i : Fin 4) {rs : List Record}
    (h : ∀ j, (t.queues.get j).records = if j = i then rs else (s.queues.get j).records) (n : Fin 8) :
    t.itemSlots.count n + (slotsOf (s.queues.get i).records).count n = s.itemSlots.count n + (slotsOf rs).count n := by
  have same : t.queues.map Queue.records = (s.queues.map Queue.records).set i rs := by
    apply Four.ext_get
    intro j
    rw [Four.get_map, Four.get_set, Four.get_map]
    exact h j
  have sum := (s.queues.map Queue.records).sum_set (fun rs => (slotsOf rs).count n) i rs
  rw [Four.get_map, ← same] at sum
  rw [State.itemSlots_count, State.itemSlots_count]
  exact sum

theorem State.itemSlots_congr {s t : State} (h : ∀ j, (t.queues.get j).records = (s.queues.get j).records) (n : Fin 8) :
    t.itemSlots.count n = s.itemSlots.count n := by
  rw [State.itemSlots_count, State.itemSlots_count,
    Four.ext_get (f := t.queues.map Queue.records) (g := s.queues.map Queue.records)]
  intro j
  rw [Four.get_map, Four.get_map, h j]

theorem slotsOf_append (rs us : List Record) : slotsOf (rs ++ us) = slotsOf rs ++ slotsOf us := by
  fun_induction slotsOf rs <;> simp_all [slotsOf]

/-! ## Ownership -/

/-- Slot `n` is FREE. -/
def State.slotFree (s : State) (n : Fin 8) : Prop := (s.snips.slots.get n).state = .free

theorem State.slotsOwned_restsOn : RestsOn State.slotsOwned [.records, .snipSlots] := by
  intro s t same hs n
  have records : t.queues.map Queue.records = s.queues.map Queue.records := same .records rfl
  have slots : t.snips.slots = s.snips.slots := same .snipSlots rfl
  rw [slots, State.itemSlots_count, records, ← State.itemSlots_count]
  exact hs n

/-- A slot owned: FREE and named by none, or not FREE and named by one. -/
theorem State.slotsOwned_iff (s : State) : s.slotsOwned ↔
    ∀ n, (s.slotFree n → s.itemSlots.count n = 0) ∧ (¬s.slotFree n → s.itemSlots.count n = 1) := by
  refine forall_congr' fun n => ?_
  unfold State.slotFree
  split <;> simp_all

/-- Items and FREE slots as before. -/
theorem State.slotsOwned_of_same {s t : State} (records : ∀ j, (t.queues.get j).records = (s.queues.get j).records)
    (free : ∀ n, t.slotFree n ↔ s.slotFree n) (hs : s.slotsOwned) : t.slotsOwned := by
  rw [State.slotsOwned_iff] at hs ⊢
  intro n
  rw [State.itemSlots_congr records, free]
  exact hs n

/-- Items that leave free their slots. -/
theorem State.slotsOwned_of_freed {s t : State} (gone : List (Fin 8))
    (left : ∀ n, t.itemSlots.count n + gone.count n = s.itemSlots.count n)
    (free : ∀ n, t.slotFree n ↔ n ∈ gone ∨ s.slotFree n) (hs : s.slotsOwned) : t.slotsOwned := by
  rw [State.slotsOwned_iff] at hs ⊢
  intro n
  have total := left n
  obtain ⟨none, one⟩ := hs n
  rw [free]
  by_cases member : n ∈ gone
  · have named : 0 < gone.count n := List.count_pos_iff.mpr member
    have atMost : s.itemSlots.count n ≤ 1 := by
      by_cases hf : s.slotFree n
      · rw [none hf]; exact Nat.zero_le 1
      · exact Nat.le_of_eq (one hf)
    exact ⟨fun _ => by omega, fun h => absurd (.inl member) h⟩
  · rw [List.count_eq_zero_of_not_mem member, Nat.add_zero] at total
    rw [total]
    simpa [member] using ⟨none, one⟩

/-! ## Slots taken, copied to, cut, and freed -/

theorem State.slotFree_congr {s t : State} (h : t.snips.slots = s.snips.slots) (n : Fin 8) : t.slotFree n ↔ s.slotFree n := by
  unfold State.slotFree
  rw [h]

theorem State.freeSlots_free (s : State) (ns : List (Fin 8)) (n : Fin 8) : (s.freeSlots ns).slotFree n ↔ n ∈ ns ∨ s.slotFree n := by
  unfold State.slotFree
  rw [State.freeSlots_get]
  split
  · rename_i member
    exact ⟨fun _ => .inl member, fun _ => rfl⟩
  · rename_i other
    exact ⟨.inr, fun h => h.resolve_left other⟩

theorem SnipState.completed_free (x : SnipState) : x.completed = .free ↔ x = .free := by
  cases x <;> decide

theorem SnipSlot.copy_free (x : SnipSlot) (t : Triple) : (x.copy t).state = .free ↔ x.state = .free := by
  unfold SnipSlot.copy
  dsimp only
  split
  · exact x.state.completed_free
  · exact Iff.rfl

theorem SnipSlot.copyHeld_free (r : Ring) (limit n : Nat) (x : SnipSlot) :
    (SnipSlot.copyHeld r limit n x).state = .free ↔ x.state = .free := by
  induction n generalizing x with
  | zero => exact Iff.rfl
  | succ n ih =>
    unfold SnipSlot.copyHeld
    dsimp only
    split
    · exact (ih _).trans (x.copy_free _)
    · exact Iff.rfl

/-- A slot taken is not FREE. -/
theorem SnippetStore.capture_not_free (st : SnippetStore) (r : Ring) (p : Pick) : (st.capture r p).1.state ≠ .free := by
  have ended (late : Bool) (x : SnipSlot) (h : x.state ≠ .free) :
      (if late && !x.complete then (x.cutNow, true) else (x, false)).1.state ≠ .free := by
    split
    · exact fun free => h ((SnipState.completed_free _).mp free)
    · exact h
  exact ended _ _ fun free => nomatch (SnipSlot.copyHeld_free _ _ _ _).mp free

/-- A slot replaced by one that is FREE exactly when it was. -/
theorem State.setSlot_free (s : State) (m : Fin 8) (x : SnipSlot) (h : x.state = .free ↔ s.slotFree m) (n : Fin 8) :
    ({ s with snips := { s.snips with slots := s.snips.slots.set m x } } : State).slotFree n ↔ s.slotFree n := by
  unfold State.slotFree
  rw [Eight.get_set]
  split
  · subst n; exact h
  · exact Iff.rfl

theorem State.offerSlot_free (s : State) (idx : Nat) (t : Triple) (m n : Fin 8) :
    (s.offerSlot idx t m).slotFree n ↔ s.slotFree n := by
  unfold State.offerSlot
  dsimp only
  split
  · split
    · exact s.setSlot_free m _ (SnipState.completed_free _) n
    · exact s.setSlot_free m _ (SnipSlot.copy_free _ t) n
  · exact Iff.rfl

theorem State.cutSlot_free (s : State) (m n : Fin 8) : (s.cutSlot m).slotFree n ↔ s.slotFree n := by
  unfold State.cutSlot
  dsimp only
  split
  · exact s.setSlot_free m _ (SnipState.completed_free _) n
  · exact Iff.rfl

theorem foldl_free {α : Type} {f : State → α → State} (each : ∀ s a n, (f s a).slotFree n ↔ s.slotFree n) (as : List α) (s : State)
    (n : Fin 8) : (as.foldl f s).slotFree n ↔ s.slotFree n := by
  induction as generalizing s with
  | nil => exact Iff.rfl
  | cons a as ih => exact (ih (f s a)).trans (each s a n)

theorem State.snippetTriple_free (s : State) (n : Fin 8) : s.snippetTriple.slotFree n ↔ s.slotFree n := by
  unfold State.snippetTriple
  dsimp only
  split
  · exact foldl_free (fun s m n => s.offerSlot_free _ _ m n) _ _ n
  · exact Iff.rfl

theorem State.snipBoundary_free (s : State) (b : Option Nat) (n : Fin 8) :
    ({ s with snips := { s.snips with boundary := b } } : State).slotFree n ↔ s.slotFree n := Iff.rfl

theorem State.snippetSignal_free (s : State) (n : Fin 8) : s.snippetSignal.slotFree n ↔ s.slotFree n := by
  unfold State.snippetSignal
  split
  · exact Iff.rfl
  · have cut := foldl_free State.cutSlot_free slotNumbers { s with snips := { s.snips with feed := s.snips.feed.takeSignal } } n
    exact (State.snipBoundary_free _ _ n).trans cut

theorem State.loseOn_slots (s : State) (i : Fin 4) (k : Nat) : (s.loseOn i k).snips.slots = s.snips.slots := by
  by_cases h : k = 0
  · rw [h]; rfl
  · rw [State.loseOn_eq _ _ _ h]

/-- Eviction frees the slots of the items evicted. -/
theorem State.evictQueue_free (s : State) (i : Fin 4) (lack : Nat) (n : Fin 8) :
    (s.evictQueue i lack).slotFree n ↔ n ∈ slotsOf (evictFrom lack (s.queues.get i).records).2 ∨ s.slotFree n := by
  by_cases none : (evictFrom lack (s.queues.get i).records).2 = []
  · rw [State.evictQueue_none s i lack none, none]
    exact ⟨.inr, fun h => h.resolve_left List.not_mem_nil⟩
  · unfold State.evictQueue
    dsimp only
    rw [if_neg (by simpa [List.isEmpty_iff] using none)]
    have freed := State.freeSlots_free
      { s with queues := s.queues.set i ({ s.queues.get i with records := (evictFrom lack (s.queues.get i).records).1 } : Queue) }
      (slotsOf (evictFrom lack (s.queues.get i).records).2) n
    refine (State.slotFree_congr ?_ n).trans (by exact freed)
    rw [State.putQueue_snips, State.loseOn_slots]

theorem State.evictAll_free (s : State) (is : List (Fin 4)) (lack : Nat) {n : Fin 8} (h : s.slotFree n) :
    (s.evictAll is lack).slotFree n := by
  induction is generalizing s lack with
  | nil => exact h
  | cons i is ih => exact ih _ _ ((s.evictQueue_free i lack n).mpr (.inr h))

theorem State.makeRoom_free {s u : State} {i : Fin 4} {k : Nat} (made : s.makeRoom i k = some u) {n : Fin 8} (h : s.slotFree n) :
    u.slotFree n := by
  rcases s.makeRoom_cases i k with ⟨-, eq⟩ | ⟨-, -, eq⟩ | ⟨-, -, eq⟩ <;> rw [eq] at made <;> cases made
  · exact h
  · exact s.evictAll_free _ _ h

theorem State.slotsOwned_evictQueue {s : State} (hs : s.slotsOwned) (i : Fin 4) (lack : Nat) : (s.evictQueue i lack).slotsOwned := by
  refine State.slotsOwned_of_freed (slotsOf (evictFrom lack (s.queues.get i).records).2) (fun n => ?_)
    (s.evictQueue_free i lack) hs
  have change := State.itemSlots_change i (fun j => s.evictQueue_records i j lack) n
  have parts := evictFrom_slots lack (s.queues.get i).records n
  omega

theorem State.slotsOwned_evictAll {s : State} (hs : s.slotsOwned) (is : List (Fin 4)) (lack : Nat) :
    (s.evictAll is lack).slotsOwned := by
  induction is generalizing s lack with
  | nil => exact hs
  | cons i is ih => exact ih (State.slotsOwned_evictQueue hs i lack) _

section Owned

variable {s : State}

theorem State.slotsOwned_makeRoom {u : State} (hs : s.slotsOwned) {i : Fin 4} {k : Nat} (h : s.makeRoom i k = some u) :
    u.slotsOwned := by
  rcases s.makeRoom_cases i k with ⟨-, eq⟩ | ⟨-, -, eq⟩ | ⟨-, -, eq⟩ <;> rw [eq] at h <;> cases h
  · exact hs
  · exact State.slotsOwned_evictAll hs _ _

theorem State.slotsOwned_loseOn (hs : s.slotsOwned) (i : Fin 4) (k : Nat) : (s.loseOn i k).slotsOwned :=
  State.slotsOwned_of_same (fun j => s.loseOn_records i j k) (State.slotFree_congr (s.loseOn_slots i k)) hs

/-- The records after an admission. -/
theorem State.accept_queue_records (s : State) (i j : Fin 4) (rs : List Record) :
    ((s.accept i rs).queues.get j).records = if j = i then (s.queues.get i).records ++ rs else (s.queues.get j).records := by
  unfold State.accept
  rw [State.putQueue_records, Queue.accept_records]

theorem State.accept_itemSlots (s : State) (i : Fin 4) (rs : List Record) (n : Fin 8) :
    (s.accept i rs).itemSlots.count n = s.itemSlots.count n + (slotsOf rs).count n := by
  have change := State.itemSlots_change i (fun j => s.accept_queue_records i j rs) n
  rw [slotsOf_append, List.count_append] at change
  omega

theorem State.accept_slots (s : State) (i : Fin 4) (rs : List Record) : (s.accept i rs).snips.slots = s.snips.slots := by
  unfold State.accept
  rw [State.putQueue_snips]

theorem State.slotsOwned_accept (hs : s.slotsOwned) (i : Fin 4) {rs : List Record} (noItem : slotsOf rs = []) :
    (s.accept i rs).slotsOwned := by
  rw [State.slotsOwned_iff] at hs ⊢
  intro n
  rw [State.accept_itemSlots, noItem, State.slotFree_congr (s.accept_slots i rs)]
  exact hs n

theorem State.slotsOwned_arriveOne (hs : s.slotsOwned) (i : Fin 4) {r : Record} (noItem : slotsOf [r] = []) :
    (s.arriveOne i r).slotsOwned := by
  unfold State.arriveOne
  split
  · exact State.slotsOwned_loseOn hs i 1
  · rename_i room
    exact State.slotsOwned_accept (State.slotsOwned_makeRoom hs room) i noItem

/-- The lowest FREE slot is FREE. -/
theorem State.lowestFree_free {n : Fin 8} (h : s.snips.lowestFree = some n) : s.slotFree n := by
  have found := List.find?_some h
  exact beq_iff_eq.mp found

/-- A pick admitted with its snippet item takes a FREE slot (R142). -/
theorem State.slotsOwned_takeSlot (hs : s.slotsOwned) {n : Fin 8} (free : s.slotFree n) (p : Pick) (i : Fin 4) (r : PickReport) :
    ((s.takeSlot n p).accept i [.pick r, .item n 0]).slotsOwned := by
  obtain ⟨k, eq⟩ := s.takeSlot_eq n p
  rw [State.slotsOwned_iff] at hs ⊢
  intro m
  have slots : (s.takeSlot n p).slotFree m ↔ m ≠ n ∧ s.slotFree m := by
    unfold State.slotFree
    rw [eq]
    simp only [Eight.get_set]
    split
    · rename_i same
      exact ⟨fun h => absurd h (SnippetStore.capture_not_free _ _ _), fun h => absurd same h.1⟩
    · rename_i other
      exact ⟨fun h => ⟨other, h⟩, fun h => h.2⟩
  have items : (s.takeSlot n p).itemSlots.count m = s.itemSlots.count m := State.itemSlots_congr (fun j => by rw [eq]) m
  rw [State.accept_itemSlots, State.slotFree_congr (State.accept_slots _ i _), slots, items]
  obtain ⟨none, one⟩ := hs m
  by_cases same : m = n
  · subst m
    rw [none free]
    simp [slotsOf]
  · have others : (slotsOf [.pick r, .item n 0]).count m = 0 :=
      List.count_eq_zero_of_not_mem (by simpa [slotsOf] using same)
    rw [others]
    simpa [same] using ⟨none, one⟩

theorem slotsOwned_queueArrival {t : State} (hs : s.slotsOwned) (h : execQueueArrival s = .next t) : t.slotsOwned := by
  unfold execQueueArrival at h
  split at h
  · cases h; exact hs
  · split at h
    · cases h
      exact State.slotsOwned_arriveOne (by exact hs) _ rfl
    · split at h
      · split at h
        · cases h; exact hs
        · unfold State.arriveSnippet at h
          split at h
          · cases h
            exact State.slotsOwned_loseOn (by exact hs) _ 2
          · rename_i room
            split at h
            · cases h
            · rename_i found
              cases h
              exact State.slotsOwned_takeSlot (State.slotsOwned_makeRoom (by exact hs) room) (State.lowestFree_free found) _ _ _
      · cases h
        exact State.slotsOwned_arriveOne (by exact hs) _ rfl
    · cases h; exact hs

theorem State.takeHead_slots (s : State) (i : Fin 4) : (s.takeHead i).snips.slots = s.snips.slots := by
  unfold State.takeHead
  rw [State.putQueue_snips]

/-- A head that is no snippet item leaves the slots as they are. -/
theorem State.slotsOwned_takeHead (hs : s.slotsOwned) {i : Fin 4} {r : Record} (head : (s.queues.get i).records.head? = some r)
    (noItem : slotsOf [r] = []) : (s.takeHead i).slotsOwned := by
  obtain ⟨rs, records⟩ := List.head?_eq_some_iff.mp head
  rw [State.slotsOwned_iff] at hs ⊢
  intro n
  have change := State.itemSlots_change i (fun j => s.takeHead_records i j) n
  have split := slotsOf_append [r] rs
  rw [noItem, List.nil_append, List.singleton_append] at split
  rw [records, List.tail_cons, split] at change
  rw [Nat.add_right_cancel change, State.slotFree_congr (s.takeHead_slots i)]
  exact hs n

/-- The slot that a head names is not FREE. -/
theorem State.slotTaken_of_head (hs : s.slotsOwned) {i : Fin 4} {n : Fin 8} {k : Nat}
    (head : (s.queues.get i).records.head? = some (.item n k)) : ¬s.slotFree n := by
  obtain ⟨rs, records⟩ := List.head?_eq_some_iff.mp head
  have named : 0 < s.itemSlots.count n := by
    rw [State.itemSlots, List.count_pos_iff, List.mem_flatten]
    refine ⟨slotsOf (s.queues.get i).records, ?_, by rw [records]; exact List.mem_cons_self⟩
    match i with
    | 0 | 1 | 2 | 3 => simp [Four.toList, Four.map, Four.get]
  intro free
  rw [(s.slotsOwned_iff.mp hs n).1 free] at named
  exact Nat.lt_irrefl 0 named

/-- A segment taken: at LAST the item leaves and its slot is FREE; before, the item still names its slot (R135, R152). -/
theorem State.slotsOwned_takeSegment (hs : s.slotsOwned) {i : Fin 4} {n : Fin 8} {k : Nat}
    (head : (s.queues.get i).records.head? = some (.item n k)) : (s.takeSegment i n k).slotsOwned := by
  obtain ⟨rs, records⟩ := List.head?_eq_some_iff.mp head
  have change := State.itemSlots_change i fun j => s.takeSegment_records i j n k
  rw [records, List.tail_cons] at change
  by_cases last : (s.snips.slots.get n).isLast k = true
  · simp only [if_pos last, slotsOf] at change
    refine State.slotsOwned_of_freed [n] (fun m => ?_) (fun m => ?_) hs
    · have here := change m
      rw [List.count_cons] at here
      rw [List.count_cons, List.count_nil]
      omega
    · unfold State.takeSegment
      dsimp only
      rw [if_pos last]
      refine (State.slotFree_congr ?_ m).trans (State.freeSlots_free s [n] m)
      rw [State.putQueue_snips]
      rfl
  · simp only [if_neg last, slotsOf] at change
    have same (m : Fin 8) : (s.takeSegment i n k).itemSlots.count m = s.itemSlots.count m := Nat.add_right_cancel (change m)
    have taken := State.slotTaken_of_head hs head
    rw [State.slotsOwned_iff] at hs ⊢
    intro m
    rw [same]
    have free : (s.takeSegment i n k).slotFree m ↔ s.slotFree m := by
      unfold State.takeSegment
      dsimp only
      rw [if_neg last]
      refine (State.slotFree_congr ?_ m).trans (s.setSlot_free n { s.snips.slots.get n with state := .sending }
        (iff_of_false (fun h => nomatch h) taken) m)
      rw [State.putQueue_snips]
    rw [free]
    exact hs m

theorem State.slotsOwned_takeQrst (hs : s.slotsOwned) (m : InMsg) : (takeQrst m s).slotsOwned := by
  unfold takeQrst
  split
  · exact hs
  · rename_i i _
    refine State.slotsOwned_of_freed (slotsOf (s.queues.get i).records) (fun n => ?_) (s.freeSlots_free _) hs
    have change := State.itemSlots_change (s := s)
      (t := { s.freeSlots (slotsOf (s.queues.get i).records) with queues := s.queues.set i (s.queues.get i).empty }) i
      (rs := []) (fun j => by
        rw [Four.get_set]
        split <;> rfl) n
    exact change

end Owned

theorem State.slotsOwned_reset : State.reset.slotsOwned := by
  rw [State.slotsOwned_iff]
  intro n
  have free : State.reset.slotFree n := by
    unfold State.slotFree
    exact congrArg SnipSlot.state (Eight.get_all _ n)
  exact ⟨fun _ => rfl, fun h => absurd free h⟩

theorem State.slotsOwned_exec (c : Instr) (s t : State) : s.slotsOwned → exec c s = .next t → t.slotsOwned := by
  refine exec_keeps State.slotsOwned_restsOn rfl State.slotsOwned_reset (State.slotsOwned_restsOn.refused rfl rfl) ?_ c s t
  intro c s t _ touched hs h
  cases c with
  | queueArrival => exact slotsOwned_queueArrival hs h
  | snippetTriple =>
    refine keeps_live hs h (State.slotsOwned_of_same (fun j => ?_) s.snippetTriple_free hs)
    have records : s.snippetTriple.queues.map Queue.records = s.queues.map Queue.records := s.snippetTriple_frame.same .records rfl
    simpa using congrArg (fun f => Four.get f j) records
  | snippetDiscontinuity =>
    refine keeps_live hs h (State.slotsOwned_restsOn.of_frame (qs := [.flushing, .replies]) (State.finishFlush_frame _ rfl rfl) rfl
      (State.slotsOwned_of_same (fun j => ?_) s.snippetSignal_free hs))
    have records : s.snippetSignal.queues.map Queue.records = s.queues.map Queue.records := s.snippetSignal_frame.same .records rfl
    simpa using congrArg (fun f => Four.get f j) records
  | pick =>
    refine keeps_live hs h ?_
    unfold State.takePickRecord
    split
    · rename_i chosen
      exact State.slotsOwned_takeHead hs (State.choice_record chosen).1 rfl
    · exact hs
  | evnt =>
    refine keeps_live hs h ?_
    unfold State.takeEvntRecord
    split
    · rename_i chosen
      exact State.slotsOwned_takeHead hs (State.choice_record chosen).1 rfl
    · exact hs
  | segm =>
    refine keeps_live hs h ?_
    unfold State.takeSegmRecord
    split
    · rename_i chosen
      exact State.slotsOwned_takeSegment hs (State.choice_record chosen).1
    · exact hs
  | qrst =>
    refine keeps_message hs h fun m _ _ _ _ => ?_
    unfold action
    split
    · exact hs
    · exact State.slotsOwned_takeQrst (by exact hs) m
  | pinReset | resetnLow | rstr => contradiction
  | _ => cases touched

end Machine
end Sys2Proof
end

section
/-! A pick routed with a snippet item stands first of the picks, and finds a FREE slot, so that no command stops the part (R142,
log 11). -/

namespace Sys2Proof.Machine

/-! ## What an outbox may hold -/

/-- Not a routed pick. -/
def Handed.unrouted (x : Handed) : Prop := ∀ q r, x ≠ .routed q r

/-- An outbox whose picks after the first are not routed, and whose first, when it is routed with a snippet item, finds a FREE slot. -/
def outboxFits (free : Bool) : List Handed → Prop
  | [] => True
  | .report _ _ :: hs => outboxFits free hs
  | .toRoute _ _ _ :: hs => ∀ x ∈ hs, x.unrouted
  | .routed _ r :: hs => (∀ x ∈ hs, x.unrouted) ∧ (r.mark = .snippet → free = true)

theorem State.outboxSound_iff (s : State) : s.outboxSound ↔ outboxFits s.snips.lowestFree.isSome s.outbox := by
  unfold State.outboxSound
  induction s.outbox with
  | nil => exact Iff.rfl
  | cons x hs ih =>
    cases x with
    | report q r =>
      rw [outboxFits, ← ih, firstPick]
      cases firstPick hs <;> exact Iff.rfl
    | toRoute p event role =>
      simp only [firstPick, outboxFits, Handed.unrouted]
      exact ⟨fun h => h.1, fun h => ⟨h, fun q r eq => nomatch eq⟩⟩
    | routed q r =>
      simp only [firstPick, outboxFits, Handed.unrouted]
      exact and_congr_right fun _ => ⟨fun h => h q r rfl, fun h q' r' eq => by cases eq; exact h⟩

/-- An outbox without routed picks. -/
theorem outboxFits_of_unrouted {free : Bool} {hs : List Handed} (h : ∀ x ∈ hs, x.unrouted) : outboxFits free hs := by
  induction hs with
  | nil => trivial
  | cons x hs ih =>
    obtain ⟨head, tail⟩ := List.forall_mem_cons.mp h
    cases x with
    | report q r => exact ih tail
    | toRoute p event role => exact tail
    | routed q r => exact absurd rfl (head q r)

theorem outboxFits_append {free : Bool} {hs us : List Handed} (h : outboxFits free hs) (k : ∀ x ∈ us, x.unrouted) :
    outboxFits free (hs ++ us) := by
  induction hs with
  | nil => exact outboxFits_of_unrouted k
  | cons x hs ih =>
    have both (rest : ∀ x ∈ hs, x.unrouted) : ∀ x ∈ hs ++ us, x.unrouted := fun x hx =>
      (List.mem_append.mp hx).elim (rest x) (k x)
    cases x with
    | report q r => exact ih h
    | toRoute p event role => exact both h
    | routed q r => exact ⟨both h.1, h.2⟩

/-- More FREE slots do no harm. -/
theorem outboxFits_mono {free free' : Bool} (more : free = true → free' = true) {hs : List Handed} (h : outboxFits free hs) :
    outboxFits free' hs := by
  induction hs with
  | nil => trivial
  | cons x hs ih =>
    cases x with
    | report q r => exact ih h
    | toRoute p event role => exact h
    | routed q r => exact ⟨h.1, fun mark => more (h.2 mark)⟩

/-- The head of an outbox leaves it. -/
theorem outboxFits_tail {free : Bool} {x : Handed} {hs : List Handed} (h : outboxFits free (x :: hs)) : outboxFits free hs := by
  cases x with
  | report q r => exact h
  | toRoute p event role => exact outboxFits_of_unrouted h
  | routed q r => exact outboxFits_of_unrouted h.1

/-- Reports stand before the first pick. -/
theorem firstPick_some {hs before after : List Handed} {x : Handed} (h : firstPick hs = some (before, x, after)) :
    hs = before ++ x :: after ∧ (∀ y ∈ before, ∃ q r, y = .report q r) := by
  induction hs generalizing before with
  | nil => cases h
  | cons y hs ih =>
    cases y with
    | report q r =>
      obtain ⟨⟨b, p, a⟩, found, eq⟩ := Option.map_eq_some_iff.mp h
      cases eq
      obtain ⟨split, reports⟩ := ih found
      refine ⟨by rw [split]; rfl, ?_⟩
      exact List.forall_mem_cons.mpr ⟨⟨q, r, rfl⟩, reports⟩
    | toRoute p event role =>
      cases h
      exact ⟨rfl, fun _ hy => absurd hy List.not_mem_nil⟩
    | routed q r =>
      cases h
      exact ⟨rfl, fun _ hy => absurd hy List.not_mem_nil⟩

theorem outboxFits_reports {free : Bool} {before hs : List Handed} (reports : ∀ y ∈ before, ∃ q r, y = .report q r) :
    outboxFits free (before ++ hs) ↔ outboxFits free hs := by
  induction before with
  | nil => exact Iff.rfl
  | cons y before ih =>
    obtain ⟨⟨q, r, rfl⟩, rest⟩ := List.forall_mem_cons.mp reports
    exact ih rest

/-! ## What the Association Unit hands on -/

/-- The outbox gains what is not a routed pick. -/
def HandsOn (s t : State) : Prop := ∃ us : List Handed, t.outbox = s.outbox ++ us ∧ ∀ x ∈ us, x.unrouted

theorem HandsOn.of_same {s t : State} (h : t.outbox = s.outbox) : HandsOn s t :=
  ⟨[], by rw [h, List.append_nil], fun _ hx => absurd hx List.not_mem_nil⟩

theorem HandsOn.trans {s t u : State} (h : HandsOn s t) (k : HandsOn t u) : HandsOn s u := by
  obtain ⟨us, first, unrouted⟩ := h
  obtain ⟨vs, second, unrouted'⟩ := k
  exact ⟨us ++ vs, by rw [second, first, List.append_assoc], fun x hx => (List.mem_append.mp hx).elim (unrouted x) (unrouted' x)⟩

theorem handsOn_report (s : State) (r : EventReport) : HandsOn s (s.handReport r) := by
  rw [State.handReport_eq]
  refine ⟨_, rfl, ?_⟩
  intro x hx
  split at hx
  · exact absurd hx List.not_mem_nil
  · rw [List.mem_singleton.mp hx]
    exact fun q r eq => nomatch eq

theorem handsOn_closeWhere (s : State) (test : Event → Bool) (cause : Event → CloseCause) :
    HandsOn s (s.closeWhere test cause) := by
  rw [State.closeWhere_eq]
  refine ⟨_, rfl, ?_⟩
  intro x hx
  split at hx
  · exact absurd hx List.not_mem_nil
  · obtain ⟨ev, -, rfl⟩ := List.mem_map.mp hx
    exact fun q r eq => nomatch eq

theorem handsOn_forceRoom (s : State) : HandsOn s s.forceRoom := by
  unfold State.forceRoom
  split
  · exact .of_same rfl
  · split
    · exact .of_same rfl
    · split
      · exact .of_same rfl
      · exact HandsOn.trans (.of_same (by rfl)) (handsOn_report _ _)

theorem handsOn_openEvent (s : State) (p : Pick) (isP : Bool) : HandsOn s (s.openEvent p isP) := by
  unfold State.openEvent
  dsimp only
  split
  · exact (handsOn_forceRoom s).trans (HandsOn.trans (.of_same (by rfl)) (handsOn_report _ _))
  · exact handsOn_forceRoom s

theorem handsOn_placePick (s : State) (p : Pick) : HandsOn s (s.placePick p).1 := by
  unfold State.placePick State.placeP State.placeS State.placeX
  dsimp only
  split
  · split
    · exact .of_same rfl
    · split
      · exact .of_same rfl
      · exact handsOn_openEvent s p true
  · split
    · exact .of_same rfl
    · exact handsOn_openEvent s p false
  · split <;> exact .of_same rfl

theorem handsOn_passOn (s : State) (p : Pick) (event : Nat) (role : Role) : HandsOn s (s.passOn p event role) :=
  ⟨[.toRoute p event role], rfl, fun x hx => by
    rw [List.mem_singleton.mp hx]
    exact fun q r eq => nomatch eq⟩

theorem handsOn_associatePick (s : State) : HandsOn s s.associatePick := by
  unfold State.associatePick
  split
  · exact .of_same rfl
  · unfold State.takePick
    split
    · exact handsOn_passOn _ _ _ _
    · rename_i p ps _ _
      exact (handsOn_placePick { s with assoc := { s.assoc with picks := ps } } p).trans (handsOn_passOn _ _ _ _)

theorem handsOn_judgeGap (s : State) (t : Nat) : HandsOn s (s.judgeGap t) := by
  rcases s.judgeGap_cases t with eq | eq | ⟨test, cause, eq⟩ <;> rw [eq]
  · exact .of_same rfl
  · exact handsOn_closeWhere s _ _
  · exact handsOn_closeWhere s test cause

theorem handsOn_associationTriple (s : State) : HandsOn s s.associationTriple := by
  unfold State.associationTriple
  split
  · exact (handsOn_judgeGap { s with assoc := { s.assoc with feed := s.assoc.feed.takeTriple } } _).trans
      (handsOn_closeWhere _ _ _)
  · exact .of_same rfl

theorem handsOn_associationTime (s : State) : HandsOn s s.associationTime := by
  unfold State.associationTime
  split
  · exact handsOn_closeWhere _ _ _
  · exact .of_same rfl

theorem handsOn_associationFlush (s : State) : HandsOn s s.associationFlush := by
  unfold State.associationFlush
  split
  · exact handsOn_closeWhere _ _ _
  · exact .of_same rfl

/-! ## The invariant -/

theorem State.outboxSound_restsOn : RestsOn State.outboxSound [.outbox, .snipSlots] := by
  intro s t same hs
  have outbox : t.outbox = s.outbox := same .outbox rfl
  have slots : t.snips.slots = s.snips.slots := same .snipSlots rfl
  rw [State.outboxSound_iff] at hs ⊢
  unfold SnippetStore.lowestFree at hs ⊢
  rw [outbox, slots]
  exact hs

/-- A FREE slot is found exactly when there is one. -/
theorem State.anyFree_iff (s : State) : s.snips.lowestFree.isSome = true ↔ ∃ n, s.slotFree n := s.snips.lowestFree_iff

section Sound

variable {s t : State}

/-- A slot that was FREE is FREE. -/
theorem State.anyFree_mono (free : ∀ n, s.slotFree n → t.slotFree n) (h : s.snips.lowestFree.isSome = true) :
    t.snips.lowestFree.isSome = true := by
  rw [State.anyFree_iff] at h ⊢
  obtain ⟨n, hn⟩ := h
  exact ⟨n, free n hn⟩

theorem State.outboxSound_of_free (hs : outboxFits s.snips.lowestFree.isSome t.outbox)
    (free : ∀ n, s.slotFree n → t.slotFree n) : t.outboxSound := by
  rw [State.outboxSound_iff]
  exact outboxFits_mono (State.anyFree_mono free) hs

theorem State.outboxSound_of_handsOn (hs : s.outboxSound) (hands : HandsOn s t) {ps : List Part} (frame : Frame ps s t)
    (slots : ps.contains .snipSlots = false) : t.outboxSound := by
  obtain ⟨us, eq, unrouted⟩ := hands
  rw [State.outboxSound_iff] at hs
  refine State.outboxSound_of_free (s := s) ?_ fun n => (State.slotFree_congr (frame.same .snipSlots slots) n).mpr
  rw [eq]
  exact outboxFits_append hs unrouted

theorem State.outboxSound_routePick (hs : s.outboxSound) : s.routePick.outboxSound := by
  unfold State.routePick
  split
  · rename_i before p event role after found
    obtain ⟨split, reports⟩ := firstPick_some found
    rw [State.outboxSound_iff, split, outboxFits_reports reports] at hs
    have unrouted : ∀ x ∈ after, x.unrouted := hs
    refine State.outboxSound_of_free (s := s) ?_ fun _ h => h
    change outboxFits _ (before ++ (s.routeOne p event role).1 ++ after)
    rw [List.append_assoc, outboxFits_reports reports]
    unfold State.routeOne
    dsimp only
    split
    · exact outboxFits_of_unrouted unrouted
    · split
      · exact ⟨unrouted, fun mark => nomatch mark⟩
      · split
        · exact ⟨unrouted, fun _ => by assumption⟩
        · exact ⟨unrouted, fun mark => nomatch mark⟩
  · exact hs

theorem State.evictAll_outbox (s : State) (is : List (Fin 4)) (lack : Nat) : (s.evictAll is lack).outbox = s.outbox := by
  induction is generalizing s lack with
  | nil => rfl
  | cons i is ih =>
    obtain ⟨qs, sl, lost, ns, eq⟩ := s.evictQueue_eq i lack
    rw [State.evictAll, ih, eq]

theorem State.makeRoom_outbox {u : State} {i : Fin 4} {k : Nat} (h : s.makeRoom i k = some u) : u.outbox = s.outbox := by
  rcases s.makeRoom_cases i k with ⟨-, eq⟩ | ⟨-, -, eq⟩ | ⟨-, -, eq⟩ <;> rw [eq] at h <;> cases h
  · rfl
  · exact s.evictAll_outbox _ _

theorem State.loseOn_outbox (s : State) (i : Fin 4) (k : Nat) : (s.loseOn i k).outbox = s.outbox := by
  by_cases h : k = 0
  · rw [h]; rfl
  · rw [State.loseOn_eq _ _ _ h]

theorem State.outboxSound_loseOn (hs : s.outboxSound) (i : Fin 4) (k : Nat) : (s.loseOn i k).outboxSound := by
  refine State.outboxSound_of_free (s := s) ?_ fun n => (State.slotFree_congr (s.loseOn_slots i k) n).mpr
  rw [State.loseOn_outbox]
  exact s.outboxSound_iff.mp hs

theorem State.accept_outbox (s : State) (i : Fin 4) (rs : List Record) : (s.accept i rs).outbox = s.outbox := by
  unfold State.accept
  rw [State.putQueue_outbox]

theorem State.outboxSound_arriveOne (hs : s.outboxSound) (i : Fin 4) (r : Record) : (s.arriveOne i r).outboxSound := by
  unfold State.arriveOne
  split
  · exact State.outboxSound_loseOn hs i 1
  · rename_i u room
    refine State.outboxSound_of_free (s := s) ?_
      fun n free => (State.slotFree_congr (u.accept_slots i _) n).mpr (State.makeRoom_free room free)
    rw [State.accept_outbox, State.makeRoom_outbox room]
    exact s.outboxSound_iff.mp hs

/-- An outbox without routed picks is sound whatever the slots. -/
theorem State.outboxSound_of_unrouted (h : ∀ x ∈ t.outbox, x.unrouted) : t.outboxSound :=
  t.outboxSound_iff.mpr (outboxFits_of_unrouted h)

/-- An arrival with a snippet item leaves no routed pick behind it. -/
theorem State.outboxSound_arriveSnippet {i : Fin 4} {r : PickReport} (unrouted : ∀ x ∈ s.outbox, x.unrouted)
    (h : s.arriveSnippet i r = .next t) : t.outboxSound := by
  unfold State.arriveSnippet at h
  split at h
  · cases h
    exact State.outboxSound_loseOn (State.outboxSound_of_unrouted unrouted) i 2
  · rename_i u room
    split at h
    · cases h
    · rename_i n _
      cases h
      refine State.outboxSound_of_unrouted ?_
      obtain ⟨k, taken⟩ := u.takeSlot_eq n r.pick
      rw [State.accept_outbox, taken, State.makeRoom_outbox room]
      exact unrouted

theorem outboxSound_queueArrival (hs : s.outboxSound) (h : execQueueArrival s = .next t) : t.outboxSound := by
  have fits := s.outboxSound_iff.mp hs
  unfold execQueueArrival at h
  split at h
  · cases h; exact hs
  · split at h
    · rename_i q r rest outbox
      cases h
      rw [outbox] at fits
      exact State.outboxSound_arriveOne ((State.outboxSound_iff _).mpr (by exact fits)) _ _
    · rename_i q r rest outbox
      rw [outbox] at fits
      split at h
      · split at h
        · cases h; exact hs
        · exact State.outboxSound_arriveSnippet (by exact fits.1) h
      · cases h
        exact State.outboxSound_arriveOne ((State.outboxSound_iff _).mpr (by exact outboxFits_tail fits)) _ _
    · cases h; exact hs

theorem State.takeSegment_free (i : Fin 4) {n : Fin 8} {k : Nat} (named : ¬s.slotFree n) (m : Fin 8) (free : s.slotFree m) :
    (s.takeSegment i n k).slotFree m := by
  have other : m ≠ n := by
    rintro rfl
    exact named free
  unfold State.takeSegment State.slotFree
  dsimp only
  split
  · rw [State.putQueue_snips]
    exact (State.freeSlots_free s [n] m).mpr (.inr free)
  · rw [State.putQueue_snips]
    change ((s.snips.slots.set n _).get m).state = .free
    rw [Eight.get_set_ne _ _ other]
    exact free

theorem State.outboxSound_takeQrst (hs : s.outboxSound) (m : InMsg) : (takeQrst m s).outboxSound := by
  unfold takeQrst
  split
  · exact hs
  · refine State.outboxSound_of_free (s := s) ?_ fun n free => (s.freeSlots_free _ n).mpr (.inr free)
    dsimp only
    rw [State.freeSlots_eq]
    exact s.outboxSound_iff.mp hs

end Sound

/-! ## Both together -/

/-- Slots owned, and an outbox that finds them. -/
def State.snippetsSound (s : State) : Prop := s.slotsOwned ∧ s.outboxSound

theorem State.snippetsSound_restsOn : RestsOn State.snippetsSound [.records, .outbox, .snipSlots] := fun s t same hs =>
  ⟨State.slotsOwned_restsOn s t (fun p hp => same p (by cases p <;> first | rfl | cases hp)) hs.1,
    State.outboxSound_restsOn s t (fun p hp => same p (by cases p <;> first | rfl | cases hp)) hs.2⟩

theorem State.snippetsSound_exec (c : Instr) (s t : State) : s.snippetsSound → exec c s = .next t → t.snippetsSound := by
  refine exec_keeps State.snippetsSound_restsOn rfl ⟨State.slotsOwned_reset, trivial⟩ (State.snippetsSound_restsOn.refused rfl rfl) ?_ c s t
  rintro c s t _ touched ⟨owned, hs⟩ h
  refine ⟨State.slotsOwned_exec c s t owned h, ?_⟩
  have unreached (apart : [Part.outbox, .snipSlots].all (fun p => !(footprint c).contains p) = true) : t.outboxSound :=
    State.outboxSound_restsOn.of_frame (exec_frame h) apart hs
  cases c with
  | associatePick => exact keeps_live hs h (State.outboxSound_of_handsOn hs (handsOn_associatePick s) s.associatePick_frame rfl)
  | associationTriple =>
    exact keeps_live hs h (State.outboxSound_of_handsOn hs (handsOn_associationTriple s) s.associationTriple_frame rfl)
  | associationTime =>
    exact keeps_live hs h (State.outboxSound_of_handsOn hs (handsOn_associationTime s) s.associationTime_frame rfl)
  | associationFlush =>
    exact keeps_live hs h (State.outboxSound_restsOn.of_frame (qs := [.flushing, .replies]) (State.finishFlush_frame _ rfl rfl) rfl
      (State.outboxSound_of_handsOn hs (handsOn_associationFlush s) s.associationFlush_frame rfl))
  | routePick => exact keeps_live hs h (State.outboxSound_routePick hs)
  | queueArrival => exact outboxSound_queueArrival hs h
  | snippetTriple =>
    have outbox : s.snippetTriple.outbox = s.outbox := s.snippetTriple_frame.same .outbox rfl
    exact keeps_live hs h (State.outboxSound_of_free (outbox ▸ s.outboxSound_iff.mp hs) fun n => (s.snippetTriple_free n).mpr)
  | snippetDiscontinuity =>
    have outbox : s.snippetSignal.outbox = s.outbox := s.snippetSignal_frame.same .outbox rfl
    exact keeps_live hs h (State.outboxSound_restsOn.of_frame (qs := [.flushing, .replies]) (State.finishFlush_frame _ rfl rfl) rfl
      (State.outboxSound_of_free (outbox ▸ s.outboxSound_iff.mp hs) fun n => (s.snippetSignal_free n).mpr))
  | pick => exact unreached rfl
  | evnt => exact unreached rfl
  | segm =>
    refine keeps_live hs h ?_
    unfold State.takeSegmRecord
    split
    · rename_i i n k chosen
      have outbox : (s.takeSegment i n k).outbox = s.outbox := (s.takeSegment_frame i n k).same .outbox rfl
      have named := State.slotTaken_of_head owned (State.choice_record chosen).1
      exact State.outboxSound_of_free (s := s) (outbox ▸ s.outboxSound_iff.mp hs) (State.takeSegment_free i named)
    · exact hs
  | qrst =>
    refine keeps_message hs h fun m _ _ _ _ => ?_
    unfold action
    split
    · exact hs
    · exact State.outboxSound_takeQrst (by exact hs) m
  | pinReset | resetnLow | rstr => contradiction
  | _ => cases touched

/-! ## No command stops the part -/

/-- An arrival with a snippet item finds a slot, FREE before or freed by its own eviction. -/
theorem State.arriveSnippet_next {s : State} (free : s.snips.lowestFree.isSome = true) (i : Fin 4) (r : PickReport) :
    ∃ t, s.arriveSnippet i r = .next t := by
  unfold State.arriveSnippet
  split
  · exact ⟨_, rfl⟩
  · rename_i u room
    have found := State.anyFree_mono (fun _ => State.makeRoom_free room) free
    split
    · rename_i none
      rw [none] at found
      cases found
    · exact ⟨_, rfl⟩

theorem queueArrival_next {s : State} (hs : s.outboxSound) : ∃ t, execQueueArrival s = .next t := by
  have fits := s.outboxSound_iff.mp hs
  unfold execQueueArrival
  split
  · exact ⟨_, rfl⟩
  · split
    · exact ⟨_, rfl⟩
    · rename_i outbox
      rw [outbox] at fits
      split
      · rename_i mark
        split
        · exact ⟨_, rfl⟩
        · exact State.arriveSnippet_next (by exact fits.2 mark) _ _
      · exact ⟨_, rfl⟩
    · exact ⟨_, rfl⟩

/-- From a sound outbox every command goes on. -/
theorem exec_next {s : State} (hs : s.outboxSound) (c : Instr) : ∃ t, exec c s = .next t := by
  cases c with
  | queueArrival => exact queueArrival_next hs
  | _ => exact ⟨_, rfl⟩

theorem step_next {s : State} (hs : s.outboxSound) : ∃ t, step s = .next t := by
  unfold step
  split
  · exact ⟨_, rfl⟩
  · exact exec_next (by exact hs) _

/-- Settles O59: items and slots change together at an admission, an eviction, a LAST segment and QRST, and routing attaches an item
only where a slot is FREE and no routed pick waits. -/
theorem stepsKeepSnippetSlotsOwned : Obligations.StepsKeepSnippetSlotsOwned :=
  ⟨fun _ _ owned outbox h => step_keeps State.snippetsSound_restsOn rfl State.snippetsSound_exec ⟨owned, outbox⟩ h,
    fun _ outbox => step_next outbox⟩

end Sys2Proof.Machine
end

section
/-! A detector has an episode open exactly in TRIGGERED, is OFF exactly when it is disabled, and has due what its state allows
(R28 to R37, R44, R45). -/

namespace Sys2Proof.Machine

/-! ## Coherence -/

/-- The state in which the second half of a triple's treatment is made. -/
def Due.home : Due → DetState
  | .warmupEnd => .warmup
  | .recoveryEnd => .recovery
  | .forcedRelease => .triggered
  | .confirmation _ => .triggered

theorem Detector.coherent_iff (x : Detector) : x.coherent ↔
    (x.state = .triggered ↔ x.episode.isSome = true) ∧ (x.state = .off ↔ x.settings.enabled = false) ∧
      (x.state = .off → x.ratio = 0) ∧ ∀ u, x.due = some u → x.state = u.home := by
  unfold Detector.coherent
  cases x.due with
  | none => simp
  | some u => cases u <;> simp [Due.home]

/-- A detector that is not OFF is coherent when it is enabled, has an episode exactly in TRIGGERED, and has due what belongs there. -/
theorem Detector.coherent_on {x : Detector} (on : x.state ≠ .off) (enabled : x.settings.enabled = true)
    (episode : x.state = .triggered ↔ x.episode.isSome = true) (due : ∀ u, x.due = some u → x.state = u.home) : x.coherent :=
  x.coherent_iff.mpr ⟨episode, iff_of_false on (by simp [enabled]), fun off => absurd off on, due⟩

section Coherent

variable {x : Detector}

theorem Detector.coherent.enabled (h : x.coherent) (on : x.state ≠ .off) : x.settings.enabled = true := by
  obtain ⟨-, off, -, -⟩ := x.coherent_iff.mp h
  simpa using mt off.mpr on

theorem Detector.coherent.noEpisode (h : x.coherent) (other : x.state ≠ .triggered) : x.episode = none := by
  obtain ⟨episode, -, -, -⟩ := x.coherent_iff.mp h
  simpa using mt episode.mpr other

theorem Detector.coherent.home (h : x.coherent) {u : Due} (due : x.due = some u) : x.state = u.home :=
  (x.coherent_iff.mp h).2.2.2 u due

/-- QUIET or RECOVERY after an episode, with nothing due. -/
theorem Detector.recover_coherent (enabled : x.settings.enabled = true) (due : x.due = none) : x.recover.coherent := by
  have state : x.recover.state = .quiet ∨ x.recover.state = .recovery := by
    unfold Detector.recover
    dsimp only
    split
    · exact .inl rfl
    · exact .inr rfl
  refine Detector.coherent_on ?_ enabled (iff_of_false ?_ Bool.false_ne_true) fun u h => ?_
  · rcases state with state | state <;> rw [state] <;> decide
  · rcases state with state | state <;> rw [state] <;> decide
  · change x.due = some u at h
    rw [due] at h
    cases h

/-- WARMUP, with no episode and nothing due. -/
theorem Detector.warm_coherent (enabled : x.settings.enabled = true) : x.warm.coherent :=
  Detector.coherent_on (fun h => nomatch h) enabled (iff_of_false (fun h => nomatch h) Bool.false_ne_true) fun _ h => nomatch h

/-- An episode open, with nothing due: TRIGGERED. -/
theorem Detector.secondaryTest_coherent (triggered : x.state = .triggered) (enabled : x.settings.enabled = true)
    (due : x.due = none) (ep : Episode) (at_ : Ref) : (x.secondaryTest ep at_).coherent := by
  obtain ⟨e, rs, eq⟩ := x.secondaryTest_eq ep at_
  rw [eq]
  refine Detector.coherent_on ?_ enabled (iff_of_true triggered rfl) fun u h => ?_
  · exact fun off => nomatch triggered.symm.trans off
  · rw [due] at h
    cases h

theorem Detector.warmupTriple_coherent (state : x.state = .warmup) (h : x.coherent) (e : Nat) : (x.warmupTriple e).coherent := by
  have on : x.state ≠ .off := by rw [state]; decide
  have other : x.state ≠ .triggered := by rw [state]; decide
  have enabled := h.enabled on
  have closed := h.noEpisode other
  have counted (short long ratio n : Nat) (p : Prop) [Decidable p] : Detector.coherent { x with
      short := short, long := long, ratio := ratio, warmupCount := n, due := if p then some .warmupEnd else none } := by
    refine Detector.coherent_on on enabled (iff_of_false other (by rw [closed]; exact Bool.false_ne_true)) fun u h => ?_
    split at h
    · cases h
      exact state
    · cases h
  unfold Detector.warmupTriple
  dsimp only
  split <;> exact counted _ _ _ _ _

theorem Detector.recoveryTriple_coherent (state : x.state = .recovery) (h : x.coherent) (e : Nat) :
    (x.recoveryTriple e).coherent := by
  have on : x.state ≠ .off := by rw [state]; decide
  have other : x.state ≠ .triggered := by rw [state]; decide
  refine Detector.coherent_on on (h.enabled on)
    (iff_of_false other (by rw [show (x.recoveryTriple e).episode = none from h.noEpisode other]; exact Bool.false_ne_true))
    fun u due => ?_
  unfold Detector.recoveryTriple at due
  dsimp only at due
  split at due
  · cases due
    exact state
  · cases due

theorem Detector.quietTriple_coherent (state : x.state = .quiet) (h : x.coherent) (due : x.due = none) (at_ : Ref) (e : Nat) :
    (x.quietTriple at_ e).coherent := by
  have on : x.state ≠ .off := by rw [state]; decide
  have other : x.state ≠ .triggered := by rw [state]; decide
  have nothing (u : Due) : x.due ≠ some u := by rw [due]; exact Option.some_ne_none u |>.symm
  unfold Detector.quietTriple
  dsimp only
  split
  · exact Detector.coherent_on (fun off => nomatch off) (h.enabled on) (iff_of_true rfl rfl) fun u due => absurd due (nothing u)
  · exact Detector.coherent_on on (h.enabled on)
      (iff_of_false other (by rw [show (x.update e).episode = none from h.noEpisode other]; exact Bool.false_ne_true))
      fun u due => absurd due (nothing u)

theorem Detector.triggeredTriple_coherent (state : x.state = .triggered) (h : x.coherent) (due : x.due = none) (ep : Episode)
    (at_ : Ref) (e : Nat) : (x.triggeredTriple ep at_ e).coherent := by
  have on : x.state ≠ .off := by rw [state]; decide
  have enabled := h.enabled on
  unfold Detector.triggeredTriple
  dsimp only
  split
  · exact Detector.recover_coherent (by exact enabled) due
  · split
    · exact Detector.coherent_on on enabled (iff_of_true state rfl) fun u due => by cases due; exact state
    · split
      · exact Detector.coherent_on on enabled (iff_of_true state rfl) fun u due => by cases due; exact state
      · exact Detector.secondaryTest_coherent (by exact state) (by exact enabled) (by exact due) _ _

theorem Detector.treat_coherent (h : x.coherent) (due : x.due = none) (at_ : Ref) (e : Nat) : (x.treat at_ e).coherent := by
  unfold Detector.treat
  split
  · exact h
  · exact Detector.warmupTriple_coherent (by assumption) h e
  · exact Detector.quietTriple_coherent (by assumption) h due at_ e
  · split
    · exact Detector.triggeredTriple_coherent (by assumption) h due _ at_ e
    · exact h
  · exact Detector.recoveryTriple_coherent (by assumption) h e

theorem Detector.confirmEpisode_coherent (h : x.coherent) : x.confirmEpisode.coherent := by
  unfold Detector.confirmEpisode
  split
  · rename_i due _
    have state : x.state = .triggered := h.home due
    exact Detector.secondaryTest_coherent (by exact state) (by exact h.enabled (by rw [state]; decide)) rfl _ _
  · exact h

theorem Detector.forceRelease_coherent (h : x.coherent) : x.forceRelease.coherent := by
  unfold Detector.forceRelease
  split
  · rename_i due _
    have state : x.state = .triggered := h.home due
    exact Detector.recover_coherent (by exact h.enabled (by rw [state]; decide)) rfl
  · exact h

/-- QUIET, entered from a state without an episode. -/
theorem Detector.quiet_coherent (enabled : x.settings.enabled = true) (episode : x.episode = none) :
    ({ x with due := none, state := .quiet } : Detector).coherent :=
  Detector.coherent_on (fun off => nomatch off) enabled
    (iff_of_false (fun state => nomatch state) (by rw [episode]; exact Bool.false_ne_true)) fun _ due => nomatch due

theorem Detector.endWarmup_coherent (h : x.coherent) : x.endWarmup.coherent := by
  unfold Detector.endWarmup
  split
  · rename_i due
    have state : x.state = .warmup := h.home due
    exact Detector.quiet_coherent (h.enabled (by rw [state]; decide)) (h.noEpisode (by rw [state]; decide))
  · exact h

theorem Detector.endRecovery_coherent (h : x.coherent) : x.endRecovery.coherent := by
  unfold Detector.endRecovery
  split
  · rename_i due
    have state : x.state = .recovery := h.home due
    exact Detector.quiet_coherent (h.enabled (by rw [state]; decide)) (h.noEpisode (by rw [state]; decide))
  · exact h

theorem Detector.interrupt_coherent (h : x.coherent) : x.interrupt.coherent := by
  unfold Detector.interrupt
  split
  · exact h
  · rename_i on
    exact Detector.warm_coherent (by exact h.enabled on)

/-! ## DETS -/

/-- OFF, entered by a disable, or kept by it. -/
theorem Detector.disable_coherent {p : DetSettings} (h : x.coherent) (due : x.due = none) (disabled : p.enabled = false) :
    ({ x with settings := p } : Detector).disable.coherent := by
  have off (y : Detector) (state : y.state = .off) (settings : y.settings = p) (episode : y.episode = none) (ratio : y.ratio = 0)
      (nothing : y.due = none) : y.coherent := by
    refine y.coherent_iff.mpr ⟨iff_of_false (by rw [state]; decide) (by rw [episode]; exact Bool.false_ne_true),
      iff_of_true state (settings ▸ disabled), fun _ => ratio, fun u due => ?_⟩
    rw [nothing] at due
    cases due
  unfold Detector.disable
  split
  · rename_i state
    exact off _ state rfl (h.noEpisode (by rw [show x.state = .off from state]; decide))
      ((x.coherent_iff.mp h).2.2.1 state) due
  · obtain ⟨ep, rs, eq⟩ := ({ x with settings := p } : Detector).endEpisode_eq
    rw [eq]
    exact off _ rfl rfl rfl rfl due

/-- A detector whose settings alone change, its enable as it was. -/
theorem Detector.coherent_settings {p : DetSettings} (h : x.coherent) (enabled : p.enabled = x.settings.enabled) :
    ({ x with settings := p } : Detector).coherent := by
  obtain ⟨episode, off, ratio, due⟩ := x.coherent_iff.mp h
  exact Detector.coherent_iff _ |>.mpr ⟨episode, by rw [enabled]; exact off, ratio, due⟩

/-- The enable field stored (R40). -/
theorem DetSettings.stored_enabled (p : DetSettings) (fs : List Nat) :
    (p.store fs).pairs.enabled = (fs[1]?.map fun v => decide (v ≠ 0)).getD p.enabled := by
  change flagSetting fs 1 p.enabled = _
  unfold flagSetting
  cases fs[1]? <;> rfl

theorem Detector.takeDets_coherent (h : x.coherent) (due : x.due = none) (fs : List Nat) : (x.takeDets fs).coherent := by
  have enabled := x.settings.stored_enabled fs
  unfold Detector.takeDets Detector.detsEffect
  split
  · rename_i field
    rw [field] at enabled
    exact Detector.disable_coherent h due enabled
  · rename_i field
    have on (some : fs[1]?.isSome = true) : (x.settings.store fs).pairs.enabled = true := by
      obtain ⟨v, eq⟩ := Option.isSome_iff_exists.mp some
      rw [enabled, eq]
      refine decide_eq_true fun zero => field (by rw [eq, zero])
    have kept (none : fs[1]? = none) : (x.settings.store fs).pairs.enabled = x.settings.enabled := by
      rw [enabled, none]
      rfl
    have enabledOn (state : x.state ≠ .off) : (x.settings.store fs).pairs.enabled = true := by
      cases arrived : fs[1]? with
      | none => exact (kept arrived).trans (h.enabled state)
      | some v => exact on (by rw [arrived]; rfl)
    split
    · split
      · rename_i some
        exact Detector.warm_coherent (by exact on some)
      · rename_i none
        exact Detector.coherent_settings h (kept (by simpa using none))
    · rename_i state
      split
      · obtain ⟨ep, rs, eq⟩ := ({ x with settings := (x.settings.store fs).pairs } : Detector).endEpisode_eq
        rw [eq]
        exact Detector.warm_coherent (by exact enabledOn state)
      · exact Detector.coherent_settings h ((enabledOn state).trans (h.enabled state).symm)

end Coherent

/-! ## Each detector at every command -/

/-- A detector replaced, the other as it was. -/
theorem State.coherent_setDet {s : State} {d : Det} (h : (s.det d).coherent) (d' : Det) {x : Detector}
    (hx : (s.det d').coherent → x.coherent) : ((s.setDet d' x).det d).coherent := by
  cases d <;> cases d' <;> first | exact h | exact hx h

/-- What a detector's coherence rests on. -/
theorem coherent_restsOn (d : Det) : RestsOn (fun s => (s.det d).coherent) [.detectors, .settings] := by
  intro s t same h
  have work : (t.detV.work, t.detH.work) = (s.detV.work, s.detH.work) := same .detectors rfl
  have settings : t.allSettings = s.allSettings := same .settings rfl
  simp only [Prod.mk.injEq, Detector.work, State.allSettings] at work settings
  obtain ⟨⟨stateV, -, -, ratioV, episodeV, dueV⟩, stateH, -, -, ratioH, episodeH, dueH⟩ := work
  obtain ⟨-, settingsV, settingsH, -⟩ := settings
  rw [Detector.coherent_iff] at h ⊢
  cases d with
  | v =>
    simp only [State.det] at h ⊢
    rw [stateV, ratioV, episodeV, dueV, settingsV]
    exact h
  | h =>
    simp only [State.det] at h ⊢
    rw [stateH, ratioH, episodeH, dueH, settingsH]
    exact h

theorem State.coherent_detectorTriple {s : State} {d : Det} (h : (s.det d).coherent) (d' : Det) :
    ((s.detectorTriple d').det d).coherent := by
  unfold State.detectorTriple
  dsimp only
  split
  · rename_i ready
    simp only [Bool.and_eq_true, Option.isNone_iff_eq_none] at ready
    exact State.coherent_setDet h d' fun h => Detector.treat_coherent (by exact h) (by exact ready.2) _ _
  · exact h

theorem State.coherent_detectorSignal {s : State} {d : Det} (h : (s.det d).coherent) (d' : Det) (want : Cause → Bool) :
    ((s.detectorSignal d' want).det d).coherent := by
  unfold State.detectorSignal
  dsimp only
  split
  · exact h
  · split
    · exact State.coherent_setDet h d' Detector.interrupt_coherent
    · exact h

theorem State.coherent_takeDets {s : State} {d : Det} (h : (s.det d).coherent) (m : InMsg)
    (due : detsSelects (detsFields m) d = true → (s.det d).due = none) : ((takeDets m s).det d).coherent := by
  have one (x : Detector) (hx : x.coherent) (nothing : detsSelects (detsFields m) d = true → x.due = none) :
      (if detsSelects (detsFields m) d then x.takeDets (detsFields m) else x).coherent := by
    split
    · rename_i selected
      exact Detector.takeDets_coherent hx (nothing selected) _
    · exact hx
  cases d with
  | v => exact one s.detV h due
  | h => exact one s.detH h due

/-- The selected detectors stand between two triples when DETS is taken (log 25). -/
theorem detsOwners_due {m : InMsg} {s : State} (h : detsOwners m s = true) (d : Det) (selected : detsSelects (detsFields m) d = true) :
    (s.det d).due = none := by
  unfold detsOwners at h
  simp only [Bool.and_eq_true, Bool.or_eq_true, Bool.not_eq_true', Option.isNone_iff_eq_none] at h
  cases d with
  | v => exact h.1.resolve_left (by rw [selected]; decide)
  | h => exact h.2.resolve_left (by rw [selected]; decide)

theorem Detector.coherent_reset : Detector.reset.coherent := (Detector.coherent_iff _).mpr (by decide)

theorem coherent_exec (d : Det) (c : Instr) (s t : State) : (s.det d).coherent → exec c s = .next t → (t.det d).coherent := by
  have atReset : (State.reset.det d).coherent := by cases d <;> exact Detector.coherent_reset
  refine exec_keeps (P := fun s => (s.det d).coherent) (coherent_restsOn d) rfl atReset ((coherent_restsOn d).refused rfl rfl) ?_ c s t
  intro c s t _ touched hs h
  have live {f : State → State} (h : (Host.Outcome.next (s.live f) : Answer) = .next t) (k : ((f s).det d).coherent) :
      (t.det d).coherent := keeps_live (P := fun s => (s.det d).coherent) hs h k
  have message {wanted : InMsg → Bool} {owners : InMsg → State → Bool} {take : InMsg → State → State}
      (h : (Host.Outcome.next (s.live fun s => s.decode wanted owners take) : Answer) = .next t)
      (each : ∀ m, owners m s = true → ((take m s.popMessage).det d).coherent) : (t.det d).coherent :=
    keeps_message (P := fun s => (s.det d).coherent) hs h fun m _ _ owned _ => each m owned
  cases c with
  | detectorTriple d' => exact live h (State.coherent_detectorTriple hs d')
  | confirmation d' => exact live h (State.coherent_setDet hs d' Detector.confirmEpisode_coherent)
  | forcedRelease d' => exact live h (State.coherent_setDet hs d' Detector.forceRelease_coherent)
  | warmupEnd d' => exact live h (State.coherent_setDet hs d' Detector.endWarmup_coherent)
  | recoveryEnd d' => exact live h (State.coherent_setDet hs d' Detector.endRecovery_coherent)
  | detectorDiscontinuity d' => exact live h (State.coherent_detectorSignal hs d' _)
  | detectorFlush d' =>
    exact live h ((coherent_restsOn d).of_frame (qs := [.flushing, .replies]) (State.finishFlush_frame _ rfl rfl) rfl
      (State.coherent_detectorSignal hs d' _))
  | dets =>
    refine message h fun m owned => State.coherent_takeDets (by exact hs) m fun selected => ?_
    exact detsOwners_due owned d selected
  | inpt =>
    refine message h fun m _ => ?_
    unfold takeInpt
    split <;> exact hs
  | onst => exact message h fun m _ => by exact hs
  | phas => exact message h fun m _ => by exact hs
  | evts => exact message h fun m _ => by exact hs
  | qset =>
    refine message h fun m _ => ?_
    unfold takeQset
    dsimp only
    split
    · exact hs
    · split
      · exact hs
      · rename_i i _
        obtain ⟨x, ns, -, eq⟩ := s.popMessage.putQueue_eq i ((s.popMessage.queues.get i).applyQset (takeFields [1, 1, 2] m.body))
        rw [eq]
        exact hs
  | snip => exact message h fun m _ => by exact hs
  | pinReset | resetnLow | rstr => contradiction
  | _ => cases touched

end Sys2Proof.Machine
end

section
/-! Every queue is sound: credits and elapsed time in range, timed exactly while it holds records, not ready without any, an item
that has sent a segment only at its head, and its starvation test made (R123, R127, R129 to R131, R135). -/

namespace Sys2Proof.Machine

/-! ## A queue replaced, lost on, evicted from -/

/-- A queue after its starvation test (R131). -/
def Queue.tested (q : Queue) : Queue := if q.starves then { q with starved := true } else q

theorem State.putQueue_queues (s : State) (i : Fin 4) (q : Queue) : (s.putQueue i q).queues = s.queues.set i q.tested := by
  unfold Queue.tested
  rcases s.putQueue_cases i q with ⟨starves, eq⟩ | ⟨starves, eq⟩ <;> rw [eq, starves] <;> rfl

/-- A queue that has lost the records but `rs` (R126, R129, R130). -/
def Queue.evicted (q : Queue) (rs : List Record) : Queue := { q with records := rs, lossNote := true }.settle

theorem State.evictQueue_queues {s : State} {i : Fin 4} {n : Nat} (some : (evictFrom n (s.queues.get i).records).2 ≠ []) :
    (s.evictQueue i n).queues =
      s.queues.set i ((s.queues.get i).evicted (evictFrom n (s.queues.get i).records).1).tested := by
  unfold State.evictQueue
  dsimp only
  rw [if_neg (by simpa [List.isEmpty_iff] using some), State.putQueue_queues, State.loseOn_eq _ _ _ (by simpa using some),
    freeSlots_queues]
  simp only [Four.get_set_self, Four.set_set]
  rfl

/-! ## Soundness -/

/-- What soundness asks of a queue besides its starvation test. -/
def Queue.sane (q : Queue) : Prop :=
  q.credits ≤ 255 ∧ (∀ n, q.timer = .running n → n ≤ 10000) ∧ (q.records = [] ↔ q.timer = .stopped) ∧
    (q.records = [] → q.ready = false) ∧ (q.expiry = true → q.timer = .expired) ∧ ∀ r ∈ q.records.tail, r.unsent = true

theorem Queue.sound_iff (q : Queue) : q.sound ↔ q.sane ∧ q.starves = false := by
  unfold Queue.sound Queue.sane
  tauto

theorem Queue.tested_sound {q : Queue} (h : q.sane) : q.tested.sound := by
  rw [Queue.sound_iff]
  unfold Queue.tested
  split
  · exact ⟨h, by simp [Queue.starves]⟩
  · rename_i fed
    exact ⟨h, by simpa using fed⟩

theorem State.queuesSound_restsOn : RestsOn State.queuesSound [.queues] := by
  intro s t same hs i
  have queues : t.queues = s.queues := same .queues rfl
  rw [queues]
  exact hs i

section Sane

variable {q : Queue}

theorem Queue.sound.sane (h : q.sound) : q.sane := (q.sound_iff.mp h).1

theorem Queue.sane_accept (h : q.sane) {rs : List Record} (some : rs ≠ []) (unsent : ∀ r ∈ rs, r.unsent = true) :
    (q.accept rs).sane := by
  obtain ⟨credits, elapsed, timed, -, expiry, tail⟩ := h
  have nonempty : q.records ++ rs ≠ [] := List.append_ne_nil_of_right_ne_nil _ some
  unfold Queue.accept Queue.makeReady
  by_cases empty : q.records = []
  · simp only [empty, List.isEmpty_nil, if_true, List.nil_append]
    refine ⟨credits, fun n eq => by cases eq; exact Nat.zero_le _, iff_of_false some (fun eq => (nomatch eq)),
      fun eq => absurd eq some, fun eq => (nomatch eq), fun r hr => unsent r (List.mem_of_mem_tail hr)⟩
  · have isEmpty : q.records.isEmpty = false := by simpa [List.isEmpty_iff] using empty
    simp only [isEmpty, Bool.false_eq_true, if_false]
    refine ⟨credits, elapsed, iff_of_false nonempty (mt timed.mpr empty), fun eq => absurd eq nonempty, expiry, ?_⟩
    dsimp only
    rw [List.tail_append_of_ne_nil empty]
    exact fun r hr => (List.mem_append.mp hr).elim (tail r) (unsent r)

/-- A queue from which records have left, settled. -/
theorem Queue.sane_settle (h : q.sane) {rs : List Record} (fewer : rs.Sublist q.records) {credits : Nat} (range : credits ≤ 255)
    (loss : Bool) : ({ q with records := rs, credits := credits, lossNote := loss } : Queue).settle.sane := by
  obtain ⟨-, elapsed, timed, -, expiry, tail⟩ := h
  rw [Queue.settle_eq]
  by_cases empty : rs = []
  · simp only [empty, if_true]
    exact ⟨range, fun n eq => (nomatch eq), iff_of_true rfl rfl, fun _ => rfl, fun eq => (nomatch eq), fun r hr => (nomatch hr)⟩
  · simp only [empty, if_false]
    have nonempty : q.records ≠ [] := fun none => empty (List.sublist_nil.mp (none ▸ fewer))
    exact ⟨range, elapsed, iff_of_false empty (mt timed.mpr nonempty), fun eq => absurd eq empty, expiry,
      fun r hr => tail r (fewer.tail.subset hr)⟩

theorem Queue.sane_evicted (h : q.sane) (n : Nat) : (q.evicted (evictFrom n q.records).1).sane :=
  Queue.sane_settle h (evictFrom_sublist n q.records) h.1 true

theorem Queue.sound_lossNote (h : q.sound) (loss : Bool) : ({ q with lossNote := loss } : Queue).sound := h

theorem Queue.sound_tick (h : q.sound) : q.tick.sound := by
  obtain ⟨credits, elapsed, timed, ready, expiry, tail, starves⟩ := h
  unfold Queue.tick
  split
  · rename_i n running
    have holds : q.records ≠ [] := fun empty => by rw [timed.mp empty] at running; cases running
    dsimp only
    split
    · exact ⟨credits, fun _ eq => (nomatch eq), iff_of_false holds (fun eq => (nomatch eq)), ready, fun _ => rfl, tail, starves⟩
    · refine ⟨credits, fun k eq => ?_, iff_of_false holds (fun eq => (nomatch eq)), ready, fun eq => ?_, tail, starves⟩
      · cases eq
        exact Nat.min_le_right _ _
      · rw [expiry eq] at running
        cases running
  · exact ⟨credits, elapsed, timed, ready, expiry, tail, starves⟩

theorem Queue.sane_expiry (h : q.sane) (due : q.expiry = true) : ({ q with expiry := false } : Queue).makeReady true |>.sane := by
  obtain ⟨credits, elapsed, timed, -, expiry, tail⟩ := h
  have expired := expiry due
  have holds : q.records ≠ [] := fun empty => by rw [timed.mp empty] at expired; cases expired
  exact ⟨credits, elapsed, timed, fun empty => absurd empty holds, fun eq => (nomatch eq), tail⟩

/-- A timer that has reached the hold time was running, so that the queue holds records and no expiry waits. -/
theorem Queue.holdReached_running (h : q.holdReached = true) : ∃ n, q.timer = .running n := by
  unfold Queue.holdReached at h
  split at h
  · exact ⟨_, by assumption⟩
  · cases h

theorem Queue.sane_applyQset (h : q.sane) (fs : List Nat) : (q.applyQset fs).sane := by
  obtain ⟨credits, elapsed, timed, ready, expiry, tail⟩ := h
  have empty_ready {cond : Bool} (empty : q.records = []) : (q.ready || (cond && !q.records.isEmpty)) = false := by
    rw [ready empty, empty]
    simp
  unfold Queue.applyQset Queue.makeReady
  dsimp only
  split
  · rename_i reached
    obtain ⟨n, running⟩ := Queue.holdReached_running reached
    have running : q.timer = .running n := running
    have holds : q.records ≠ [] := fun empty => by rw [timed.mp empty] at running; cases running
    exact ⟨credits, fun _ eq => (nomatch eq), iff_of_false holds (fun eq => (nomatch eq)), empty_ready, fun _ => rfl, tail⟩
  · exact ⟨credits, elapsed, timed, empty_ready, expiry, tail⟩

theorem Queue.sane_grant (h : q.sane) (n : Nat) : (q.grant n).sane := by
  obtain ⟨-, elapsed, timed, ready, expiry, tail⟩ := h
  exact ⟨Nat.min_le_left _ _, elapsed, timed, ready, expiry, tail⟩

theorem Queue.sound_empty (q : Queue) : q.empty.sound :=
  ⟨Nat.zero_le _, fun _ eq => (nomatch eq), iff_of_true rfl rfl, fun _ => rfl, fun eq => (nomatch eq), fun _ hr => (nomatch hr), rfl⟩

end Sane

section Queues

variable {s : State}

theorem State.queuesSound_set {qs : Four Queue} (hs : ∀ j, (qs.get j).sound) (i : Fin 4) {q : Queue} (hq : q.sound) (j : Fin 4) :
    ((qs.set i q).get j).sound := by
  rw [Four.get_set]
  split
  · exact hq
  · exact hs j

theorem State.queuesSound_putQueue (hs : s.queuesSound) (i : Fin 4) {q : Queue} (hq : q.sane) : (s.putQueue i q).queuesSound := by
  intro j
  rw [State.putQueue_queues]
  exact State.queuesSound_set hs i (Queue.tested_sound hq) j

theorem State.queuesSound_loseOn (hs : s.queuesSound) (i : Fin 4) (k : Nat) : (s.loseOn i k).queuesSound := by
  by_cases h : k = 0
  · rw [h]; exact hs
  · intro j
    rw [State.loseOn_eq _ _ _ h]
    exact State.queuesSound_set hs i (Queue.sound_lossNote (hs i) true) j

theorem State.queuesSound_evictQueue (hs : s.queuesSound) (i : Fin 4) (n : Nat) : (s.evictQueue i n).queuesSound := by
  by_cases none : (evictFrom n (s.queues.get i).records).2 = []
  · rw [State.evictQueue_none s i n none]
    exact hs
  · intro j
    rw [State.evictQueue_queues none]
    exact State.queuesSound_set hs i (Queue.tested_sound (Queue.sane_evicted (hs i).sane n)) j

theorem State.queuesSound_evictAll (hs : s.queuesSound) (is : List (Fin 4)) (lack : Nat) : (s.evictAll is lack).queuesSound := by
  induction is generalizing s lack with
  | nil => exact hs
  | cons i is ih => exact ih (State.queuesSound_evictQueue hs i lack) _

theorem State.queuesSound_makeRoom {u : State} (hs : s.queuesSound) {i : Fin 4} {n : Nat} (h : s.makeRoom i n = some u) :
    u.queuesSound := by
  rcases s.makeRoom_cases i n with ⟨-, eq⟩ | ⟨-, -, eq⟩ | ⟨-, -, eq⟩ <;> rw [eq] at h <;> cases h
  · exact hs
  · exact State.queuesSound_evictAll hs _ _

theorem State.queuesSound_accept (hs : s.queuesSound) (i : Fin 4) {rs : List Record} (some : rs ≠ [])
    (unsent : ∀ r ∈ rs, r.unsent = true) : (s.accept i rs).queuesSound :=
  State.queuesSound_putQueue hs i (Queue.sane_accept (hs i).sane some unsent)

theorem State.queuesSound_arriveOne (hs : s.queuesSound) (i : Fin 4) {r : Record} (unsent : r.unsent = true) :
    (s.arriveOne i r).queuesSound := by
  unfold State.arriveOne
  split
  · exact State.queuesSound_loseOn hs i 1
  · rename_i room
    exact State.queuesSound_accept (State.queuesSound_makeRoom hs room) i (List.cons_ne_nil _ _) (by simpa using unsent)

theorem State.queuesSound_takeSlot (hs : s.queuesSound) (n : Fin 8) (p : Pick) : (s.takeSlot n p).queuesSound := by
  obtain ⟨k, eq⟩ := s.takeSlot_eq n p
  rw [eq]
  exact hs

theorem queuesSound_queueArrival {t : State} (hs : s.queuesSound) (h : execQueueArrival s = .next t) : t.queuesSound := by
  unfold execQueueArrival at h
  split at h
  · cases h; exact hs
  · split at h
    · cases h
      exact State.queuesSound_arriveOne (by exact hs) _ rfl
    · split at h
      · split at h
        · cases h; exact hs
        · unfold State.arriveSnippet at h
          split at h
          · cases h
            exact State.queuesSound_loseOn (by exact hs) _ 2
          · rename_i room
            split at h
            · cases h
            · cases h
              exact State.queuesSound_accept (State.queuesSound_takeSlot (State.queuesSound_makeRoom (by exact hs) room) _ _) _
                (List.cons_ne_nil _ _) (by simp [Record.unsent])
      · cases h
        exact State.queuesSound_arriveOne (by exact hs) _ rfl
    · cases h; exact hs

theorem State.queuesSound_takeExpiry (hs : s.queuesSound) (i : Fin 4) : (s.takeExpiry i).queuesSound := by
  unfold State.takeExpiry
  dsimp only
  split
  · rename_i due
    exact State.queuesSound_putQueue hs i (Queue.sane_expiry (hs i).sane due)
  · exact hs

theorem State.queuesSound_takeHead (hs : s.queuesSound) (i : Fin 4) : (s.takeHead i).queuesSound :=
  State.queuesSound_putQueue hs i
    (Queue.sane_settle (hs i).sane (List.tail_sublist _) (le_trans (Nat.sub_le _ 1) (hs i).1) (s.queues.get i).lossNote)

/-- An item that has sent a segment stands at the head (R123, R135). -/
theorem State.queuesSound_takeSegment (hs : s.queuesSound) {i : Fin 4} {n : Fin 8} {k : Nat}
    (head : (s.queues.get i).records.head? = some (.item n k)) : (s.takeSegment i n k).queuesSound := by
  unfold State.takeSegment
  dsimp only
  split
  · exact State.queuesSound_putQueue (by exact hs) i
      (Queue.sane_settle (hs i).sane (List.tail_sublist _) (le_trans (Nat.sub_le _ 1) (hs i).1) (s.queues.get i).lossNote)
  · obtain ⟨credits, elapsed, timed, -, expiry, tail⟩ := (hs i).sane
    have holds : (s.queues.get i).records ≠ [] := fun empty => by rw [empty] at head; cases head
    exact State.queuesSound_putQueue (by exact hs) i ⟨le_trans (Nat.sub_le _ 1) credits, elapsed,
      iff_of_false (List.cons_ne_nil _ _) (mt timed.mpr holds), fun empty => absurd empty (List.cons_ne_nil _ _), expiry, tail⟩

theorem State.queuesSound_takeQset (hs : s.queuesSound) (m : InMsg) : (takeQset m s).queuesSound := by
  unfold takeQset
  dsimp only
  split
  · exact hs
  · split
    · exact hs
    · exact State.queuesSound_putQueue hs _ (Queue.sane_applyQset (hs _).sane _)

theorem State.queuesSound_takeGrnt (hs : s.queuesSound) (m : InMsg) : (takeGrnt m s).queuesSound := by
  unfold takeGrnt
  split
  · exact hs
  · exact State.queuesSound_putQueue hs _ (Queue.sane_grant (hs _).sane _)

theorem State.queuesSound_takeQrst (hs : s.queuesSound) (m : InMsg) : (takeQrst m s).queuesSound := by
  unfold takeQrst
  split
  · exact hs
  · exact State.queuesSound_set hs _ (Queue.sound_empty _)

end Queues

theorem State.queuesSound_reset : State.reset.queuesSound := fun i => by
  rw [show State.reset.queues = .all .reset from rfl, Four.get_all]
  exact Queue.sound_empty Queue.reset

theorem State.queuesSound_exec (c : Instr) (s t : State) : s.queuesSound → exec c s = .next t → t.queuesSound := by
  refine exec_keeps State.queuesSound_restsOn rfl State.queuesSound_reset (State.queuesSound_restsOn.refused rfl rfl) ?_ c s t
  intro c s t _ touched hs h
  cases c with
  | queueArrival => exact queuesSound_queueArrival hs h
  | localTick =>
    refine keeps_live hs h fun i => ?_
    change ((s.queues.map Queue.tick).get i).sound
    rw [Four.get_map]
    exact Queue.sound_tick (hs i)
  | holdTimerExpiry n =>
    refine keeps_live hs h ?_
    cases queueOf n with
    | none => exact hs
    | some i => exact State.queuesSound_takeExpiry hs i
  | pick =>
    refine keeps_live hs h ?_
    unfold State.takePickRecord
    split
    · exact State.queuesSound_takeHead hs _
    · exact hs
  | evnt =>
    refine keeps_live hs h ?_
    unfold State.takeEvntRecord
    split
    · exact State.queuesSound_takeHead hs _
    · exact hs
  | segm =>
    refine keeps_live hs h ?_
    unfold State.takeSegmRecord
    split
    · rename_i chosen
      exact State.queuesSound_takeSegment hs (State.choice_record chosen).1
    · exact hs
  | cntr =>
    refine keeps_message hs h fun m _ _ _ _ => ?_
    unfold action
    split
    · exact hs
    · intro i
      change ((s.queues.map fun q : Queue => { q with lossNote := false }).get i).sound
      rw [Four.get_map]
      exact Queue.sound_lossNote (hs i) false
  | qset => exact keeps_message hs h fun m _ _ _ _ => State.queuesSound_takeQset (by exact hs) m
  | grnt =>
    refine keeps_message hs h fun m _ _ _ _ => ?_
    unfold action
    split
    · exact hs
    · exact State.queuesSound_takeGrnt (by exact hs) m
  | qrst =>
    refine keeps_message hs h fun m _ _ _ _ => ?_
    unfold action
    split
    · exact hs
    · exact State.queuesSound_takeQrst (by exact hs) m
  | pinReset | resetnLow | rstr => contradiction
  | _ => cases touched

end Sys2Proof.Machine
end

section
/-! Every signature slot is sound (R79 to R88, R93). -/

namespace Sys2Proof.Machine

/-! ## Signature slots -/

theorem State.slotsSound_restsOn : RestsOn State.slotsSound [.bankSlots] := by
  intro s t same hs n
  have slots : t.bank.slots = s.bank.slots := same .bankSlots rfl
  rw [slots]
  exact hs n

section Slot

variable {x : SigSlot}

/-- A slot's dead time changed: none unless ACTIVE, and at most its length. -/
theorem SigSlot.sound_dead (h : x.sound) {n : Nat} (idle : x.state ≠ .active → n = 0) (most : x.state = .active → n ≤ x.length) :
    ({ x with dead := n } : SigSlot).sound := by
  obtain ⟨positions, ptr, gate, m16, -, active⟩ := h
  refine ⟨positions, ptr, gate, m16, idle, fun state => ?_⟩
  obtain ⟨length, count, eight, one, -, offset⟩ := active state
  exact ⟨length, count, eight, one, most state, offset⟩

theorem SigSlot.sound_treat (h : x.sound) (n : Fin 8) (r : Ring) (idx : Nat) : (x.treat n r idx).1.sound := by
  unfold SigSlot.treat
  split
  · exact h
  · rename_i active
    have active : x.state = .active := not_not.mp active
    split
    · exact SigSlot.sound_dead h (fun state => absurd active state)
        fun state => le_trans (Nat.sub_le _ 1) (h.2.2.2.2.2 state).2.2.2.2.1
    · split
      · exact h
      · exact SigSlot.sound_dead h (fun state => absurd active state) fun _ => Nat.le_refl _

/-- LOADING, with no dead time (R81, R88). -/
theorem SigSlot.sound_loading (h : x.sound) : x.loading.sound := by
  obtain ⟨positions, ptr, gate, m16, -, -⟩ := h
  exact ⟨positions, ptr, gate, m16, fun _ => rfl, fun state => (nomatch state)⟩

theorem SigSlot.sound_startAt (h : x.sound) (loading : x.state ≠ .active) (v : Nat) :
    (x.startAt v).sound ∧ (x.startAt v).state ≠ .active := by
  unfold SigSlot.startAt
  split
  · exact ⟨h, loading⟩
  · obtain ⟨positions, -, gate, m16, idle, -⟩ := h
    exact ⟨⟨positions, Nat.min_le_right _ _, gate, m16, idle, fun state => absurd state loading⟩, loading⟩

theorem SigSlot.sound_writePair (h : x.sound) (loading : x.state ≠ .active) (p : Int × Nat) :
    (x.writePair p).sound ∧ (x.writePair p).state ≠ .active := by
  unfold SigSlot.writePair
  split
  · rename_i room
    obtain ⟨positions, -, gate, m16, idle, -⟩ := h
    exact ⟨⟨by rw [List.length_set]; exact positions, room, gate, m16, idle, fun state => absurd state loading⟩, loading⟩
  · exact ⟨h, loading⟩

theorem SigSlot.sound_writePairs (h : x.sound) (loading : x.state ≠ .active) (ps : List (Int × Nat)) :
    (ps.foldl SigSlot.writePair x).sound := by
  induction ps generalizing x with
  | nil => exact h
  | cons p ps ih =>
    obtain ⟨written, still⟩ := SigSlot.sound_writePair h loading p
    exact ih written still

theorem SigSlot.sound_takeSigw (h : x.sound) (start : Option Nat) (pairs : List (Int × Nat)) : (x.takeSigw start pairs).sound := by
  unfold SigSlot.takeSigw
  split
  · exact SigSlot.sound_loading h
  · obtain ⟨started, still⟩ := SigSlot.sound_startAt (SigSlot.sound_loading h) (fun state => (nomatch state)) _
    exact SigSlot.sound_writePairs started still pairs

/-- SIGE stores its parameters at their limits (R85 to R87). -/
theorem SigSlot.sound_takeSige {y : SigSlot} {clamped : Bool} (h : x.sound) {m : InMsg} (taken : x.takeSige m = some (y, clamped)) :
    y.sound := by
  obtain ⟨positions, ptr, -, -, idle, active⟩ := h
  have m16 : 1 ≤ clamp 1 16 (m.at 4) ∧ clamp 1 16 (m.at 4) ≤ 16 := clamp_mem (by decide) _
  have offset {n : Nat} (eight : 8 ≤ n) : min (m.at 5) (n - 1) < n := by omega
  unfold SigSlot.takeSige at taken
  split at taken
  · cases taken
  · rename_i state
    cases taken
    obtain ⟨length, count, eight, one, dead, -⟩ := active state
    exact ⟨positions, ptr, Nat.min_le_left _ _, m16, idle, fun _ => ⟨length, count, eight, one, dead, offset eight⟩⟩
  · split at taken
    · rename_i valid
      cases taken
      simp only [validSignature, Bool.and_eq_true, decide_eq_true_eq] at valid
      exact ⟨positions, ptr, Nat.min_le_left _ _, m16, fun state => absurd rfl state,
        fun _ => ⟨rfl, rfl, valid.1, valid.2, Nat.zero_le _, offset valid.1⟩⟩
    · cases taken

end Slot

section Slots

variable {s : State}

theorem State.slotsSound_set (hs : s.slotsSound) (n : Fin 8) {x : SigSlot} (hx : x.sound) (m : Fin 8) :
    ((s.bank.slots.set n x).get m).sound := by
  rw [Eight.get_set]
  split
  · exact hx
  · exact hs m

theorem State.treatSlot_slots (s : State) (idx : Nat) (n : Fin 8) :
    (s.treatSlot idx n).bank.slots = s.bank.slots.set n ((s.bank.slots.get n).treat n s.ring idx).1 := by
  unfold State.treatSlot
  split <;> rename_i eq <;> rw [eq]

theorem State.slotsSound_treatSlot (hs : s.slotsSound) (idx : Nat) (n : Fin 8) : (s.treatSlot idx n).slotsSound := by
  intro m
  rw [State.treatSlot_slots]
  exact State.slotsSound_set hs n (SigSlot.sound_treat (hs n) n s.ring idx) m

theorem State.slotsSound_foldl {α : Type} {f : State → α → State} (each : ∀ {s : State} (a : α), s.slotsSound → (f s a).slotsSound)
    (as : List α) (hs : s.slotsSound) : (as.foldl f s).slotsSound := by
  induction as generalizing s with
  | nil => exact hs
  | cons a as ih => exact ih (each a hs)

theorem State.slotsSound_signatureTriple (hs : s.slotsSound) : s.signatureTriple.slotsSound := by
  unfold State.signatureTriple
  dsimp only
  split
  · exact State.slotsSound_foldl (fun n h => State.slotsSound_treatSlot h _ n) _ (by exact hs)
  · exact hs

theorem State.slotsSound_bankSignal (hs : s.slotsSound) (want : Cause → Bool) : (s.bankSignal want).slotsSound := by
  unfold State.bankSignal
  split
  · exact hs
  · split
    · intro n
      change ((s.bank.slots.map fun x : SigSlot => { x with dead := 0 }).get n).sound
      rw [Eight.get_map]
      exact SigSlot.sound_dead (hs n) (fun _ => rfl) fun _ => Nat.zero_le _
    · exact hs

theorem State.slotsSound_takeSigw (hs : s.slotsSound) (m : InMsg) : (takeSigw m s).slotsSound := by
  unfold takeSigw
  dsimp only
  split
  · exact hs
  · split
    · exact hs
    · exact State.slotsSound_set hs _ (SigSlot.sound_takeSigw (hs _) _ _)

theorem State.slotsSound_takeSige (hs : s.slotsSound) (m : InMsg) : (takeSige m s).slotsSound := by
  unfold takeSige
  split
  · exact hs
  · split
    · exact hs
    · rename_i taken
      exact State.slotsSound_set hs _ (SigSlot.sound_takeSige (hs _) taken)

theorem State.slotsSound_takeSigd (hs : s.slotsSound) (m : InMsg) : (takeSigd m s).slotsSound := by
  unfold takeSigd
  split
  · exact hs
  · dsimp only
    split
    · exact hs
    · exact hs
    · exact State.slotsSound_set hs _ (SigSlot.sound_loading (hs _))

end Slots

theorem SigSlot.sound_reset : SigSlot.reset.sound :=
  ⟨List.length_replicate, Nat.zero_le _, Nat.zero_le _, ⟨by decide, by decide⟩, fun _ => rfl, fun state => (nomatch state)⟩

theorem State.slotsSound_reset : State.reset.slotsSound := fun n => by
  rw [show State.reset.bank.slots = .all .reset from rfl, Eight.get_all]
  exact SigSlot.sound_reset

theorem State.slotsSound_exec (c : Instr) (s t : State) : s.slotsSound → exec c s = .next t → t.slotsSound := by
  refine exec_keeps State.slotsSound_restsOn rfl State.slotsSound_reset (State.slotsSound_restsOn.refused rfl rfl) ?_ c s t
  intro c s t _ touched hs h
  cases c with
  | signatureTriple => exact keeps_live hs h (State.slotsSound_signatureTriple hs)
  | signatureDiscontinuity => exact keeps_live hs h (State.slotsSound_bankSignal hs _)
  | signatureFlush =>
    exact keeps_live hs h (State.slotsSound_restsOn.of_frame (qs := [.flushing, .replies]) (State.finishFlush_frame _ rfl rfl) rfl
      (State.slotsSound_bankSignal hs _))
  | sigw => exact keeps_message hs h fun m _ _ _ _ => State.slotsSound_takeSigw (by exact hs) m
  | sige =>
    refine keeps_message hs h fun m _ _ _ _ => ?_
    unfold action
    split
    · exact hs
    · exact State.slotsSound_takeSige (by exact hs) m
  | sigd =>
    refine keeps_message hs h fun m _ _ _ _ => ?_
    unfold action
    split
    · exact hs
    · exact State.slotsSound_takeSigd (by exact hs) m
  | pinReset | resetnLow | rstr => contradiction
  | _ => cases touched

/-- Settles O58: detectors, queues and signature slots are each kept sound by the commands that reach them. -/
theorem stepsKeepDetectorsQueuesAndSlotsSound : Obligations.StepsKeepDetectorsQueuesAndSlotsSound :=
  fun _ _ h =>
    ⟨fun v hh => ⟨step_keeps (coherent_restsOn .v) rfl (coherent_exec .v) v h, step_keeps (coherent_restsOn .h) rfl (coherent_exec .h) hh h⟩,
      fun queues => step_keeps State.queuesSound_restsOn rfl State.queuesSound_exec queues h,
      fun slots => step_keeps State.slotsSound_restsOn rfl State.slotsSound_exec slots h⟩

end Sys2Proof.Machine
end

section
/-! The step and the resets: what RSTR, PIN_RESET and RESETN_LOW leave, and that the state after reset meets every invariant (R174,
R175, R179, R191, R192). -/

namespace Sys2Proof.Machine

/-- Settles O1: a step unfolds to the front command. -/
theorem stepTakesFrontCommand : Obligations.StepTakesFrontCommand := by
  intro c cs s pending
  unfold step
  rw [pending]

/-! ## The reset values -/

theorem SigSlot.atReset_reset : SigSlot.reset.atReset := ⟨rfl, rfl, rfl, rfl, rfl, rfl, rfl, rfl, rfl⟩

theorem Queue.atReset_reset : Queue.reset.atReset := ⟨rfl, rfl, rfl, rfl, rfl, rfl, rfl, rfl, rfl⟩

theorem SnipSlot.atReset_reset : SnipSlot.reset.atReset := ⟨rfl, rfl, rfl, rfl, rfl⟩

theorem Detector.atReset_reset : Detector.reset.atReset := ⟨rfl, rfl, rfl, rfl, rfl, rfl, rfl, rfl, rfl, rfl, rfl, rfl⟩

/-- The reset values, whatever the pins, local time and the line say: the line's watch, its character and REDY. -/
theorem atReset_of_line (cs : List Instr) (low a b : Bool) (n : Nat) (watch : LineWatch) (redy : Option ResetCause)
    (current : Option LinkChar) :
    ({ State.reset with
      pending := cs, resetLow := low, rate1 := a, rate0 := b, localTime := n
      link := { LinkPort.reset with watch := watch, redy := redy, current := current } } : State).atReset := by
  refine ⟨rfl, rfl, rfl, Detector.atReset_reset, Detector.atReset_reset, rfl, ⟨rfl, rfl, fun n => ?_⟩, rfl, rfl, rfl, fun q => ?_,
    ⟨rfl, rfl, rfl, fun n => ?_⟩, ⟨rfl, rfl, rfl, rfl, rfl, rfl, rfl⟩, rfl,
    show ∀ k ∈ Counters.zero.list, k = 0 by decide⟩
  · rw [show State.reset.bank.slots = .all .reset from rfl, Eight.get_all]
    exact SigSlot.atReset_reset
  · rw [show State.reset.queues = .all .reset from rfl, Four.get_all]
    exact Queue.atReset_reset
  · rw [show State.reset.snips.slots = .all .reset from rfl, Eight.get_all]
    exact SnipSlot.atReset_reset

/-! ## RSTR -/

/-- The message that stands at the head of the buffer, complete or broken, is the decoder's. -/
theorem State.oldestMessage_of_head {s : State} {m : InMsg} (flushing : s.flushing = false) (head : s.link.inbox.head? = some m)
    (status : m.status ≠ .inProgress) : s.oldestMessage = some m := by
  obtain ⟨rest, inbox⟩ := List.head?_eq_some_iff.mp head
  unfold State.oldestMessage
  rw [inbox]
  simp [flushing, status]

theorem exec_rstr_complete {s : State} {m : InMsg} (high : s.resetLow = false) (oldest : s.oldestMessage = some m)
    (code : m.code = 0x01) (complete : m.status = .complete) : exec .rstr s = .next s.commandReset := by
  have whole : m.isBroken = false := by simp [InMsg.isBroken, complete]
  have reset : s.decodeRstr = s.commandReset := by simp [State.decodeRstr, oldest, code, whole]
  change Host.Outcome.next (s.live State.decodeRstr) = _
  rw [State.live_high high, reset]

theorem exec_rstr_broken {s : State} {m : InMsg} (high : s.resetLow = false) (oldest : s.oldestMessage = some m)
    (code : m.code = 0x01) (broken : m.status = .broken) :
    exec .rstr s = .next (if s.link.replies.length < 8 then s.popMessage.reply (.rfsd 0x01 .short) else s) := by
  have short : m.isBroken = true := by simp [InMsg.isBroken, broken]
  have refused : s.decodeRstr = if s.link.replies.length < 8 then s.popMessage.reply (.rfsd 0x01 .short) else s := by
    simp [State.decodeRstr, oldest, code, short, State.replyRoom]
  change Host.Outcome.next (s.live State.decodeRstr) = _
  rw [State.live_high high, refused]

/-- Settles O3: complete, it is the command reset; broken, it is refused once a reply has room. -/
theorem rstrResetsThePart : Obligations.RstrResetsThePart := by
  intro s m high flushing head code
  constructor
  · intro complete
    have oldest := State.oldestMessage_of_head flushing head (by rw [complete]; decide)
    exact ⟨s.commandReset, exec_rstr_complete high oldest code complete, atReset_of_line _ _ _ _ _ _ _ _, rfl, rfl, rfl, rfl, rfl,
      rfl, rfl⟩
  · intro broken
    have oldest := State.oldestMessage_of_head flushing head (by rw [broken]; decide)
    rw [exec_rstr_broken high oldest code broken]
    exact ⟨fun room => by rw [if_pos room], fun full => by rw [if_neg (Nat.not_lt.mpr full)]⟩

/-! ## Pin reset -/

/-- While RESETN is low no command but the two reset events does anything (R191). -/
theorem exec_low {c : Instr} {s : State} (low : s.resetLow = true) (notPin : ∀ a b, c ≠ .pinReset a b) (notLow : c ≠ .resetnLow) :
    exec c s = .next s := by
  have idle (f : State → State) : (Host.Outcome.next (s.live f) : Answer) = .next s := by rw [State.live_low low]
  cases c with
  | pinReset a b => exact absurd rfl (notPin a b)
  | resetnLow => exact absurd rfl notLow
  | queueArrival =>
    change execQueueArrival s = _
    unfold execQueueArrival
    rw [if_pos low]
  | _ => exact idle _

/-- Settles O4: the two reset events leave the reset values, and while RESETN is low nothing else does anything. -/
theorem resetLeavesResetValues : Obligations.ResetLeavesResetValues :=
  ⟨⟨fun _ _ s => ⟨_, rfl, atReset_of_line s.pending _ _ _ _ .awaitMark (some .pin) none, rfl, rfl, rfl, rfl, rfl, rfl, rfl⟩,
      fun s => ⟨_, rfl, atReset_of_line s.pending _ _ _ _ .awaitMark none none, rfl, rfl, rfl, rfl, rfl⟩⟩,
    fun _ _ low notPin notLow => exec_low low notPin notLow⟩

/-! ## The invariants at reset -/

/-- Before anything is written no reader has anything to take. -/
theorem reset_feeds {f : Feed} (h : f ∈ State.reset.feeds) : f = .reset :=
  List.eq_of_mem_replicate (n := 6) h

/-- Settles O60: each invariant speaks of empty stores, default settings or first numbers. -/
theorem resetMeetsTheInvariants : Obligations.ResetMeetsTheInvariants := by
  refine ⟨Nat.zero_le _, ⟨Nat.zero_le _, Nat.zero_le _, Nat.zero_le _, rfl⟩, Nat.zero_le _, Nat.zero_le _, rfl, fun f hf => ?_,
    fun f hf => ?_, fun flushing => (nomatch flushing), State.levelsBounded_reset, State.numbersLegal_reset, Counters.bounded_zero,
    State.settingsInRange_reset, Detector.coherent_reset, Detector.coherent_reset, State.queuesSound_reset, State.slotsSound_reset,
    State.slotsOwned_reset, trivial, atReset_of_line _ _ _ _ _ .awaitMark (some .pin) none, fun _ => rfl⟩
  · rw [reset_feeds hf]
    exact ⟨Nat.le_refl _, Nat.zero_le _⟩
  · rw [reset_feeds hf]
    exact ⟨List.Pairwise.nil, fun g hg => (nomatch hg)⟩

end Sys2Proof.Machine
end

section
/-! The two detectors, triple by triple and signal by signal (R25 to R38, R47, R48). -/

namespace Sys2Proof.Machine

/-! ## One triple -/

/-- A detector between two treatments takes its next triple and treats it by its state. -/
theorem exec_detectorTriple {s : State} {d : Det} (high : s.resetLow = false) (due : (s.det d).due = none)
    (ready : (s.det d).feed.tripleReady s.ring = true) : exec (.detectorTriple d) s =
      .next (s.setDet d ({ s.det d with feed := (s.det d).feed.takeTriple }.treat
        ⟨(s.det d).feed.taken, (s.ring.read (s.det d).feed.taken).time⟩ ((s.ring.read (s.det d).feed.taken).energy d))) := by
  change Host.Outcome.next (s.live fun s => s.detectorTriple d) = _
  rw [State.live_high high]
  unfold State.detectorTriple
  dsimp only
  rw [if_pos (by rw [ready, due]; rfl)]

section Treat

variable {x : Detector} (at_ : Ref) (e : Nat)

theorem Detector.treat_off (state : x.state = .off) : x.treat at_ e = x := by
  unfold Detector.treat
  rw [state]

theorem Detector.treat_quiet (state : x.state = .quiet) : x.treat at_ e = x.quietTriple at_ e := by
  unfold Detector.treat
  rw [state]

theorem Detector.treat_warmup (state : x.state = .warmup) : x.treat at_ e = x.warmupTriple e := by
  unfold Detector.treat
  rw [state]

theorem Detector.treat_recovery (state : x.state = .recovery) : x.treat at_ e = x.recoveryTriple e := by
  unfold Detector.treat
  rw [state]

theorem Detector.treat_triggered {ep : Episode} (state : x.state = .triggered) (episode : x.episode = some ep) :
    x.treat at_ e = x.triggeredTriple ep at_ e := by
  unfold Detector.treat
  rw [state, episode]

end Treat

/-- Settles O12: each state's treatment, on the branch that its tests take. -/
theorem levelsAreUpdatedByState : Obligations.LevelsAreUpdatedByState := by
  constructor
  · intro s d high state due ready
    refine ⟨fun below => ?_, fun above => ?_⟩
    · rw [exec_detectorTriple high due ready, Detector.treat_quiet _ _ (by exact state)]
      unfold Detector.quietTriple
      dsimp only
      rw [if_neg (by exact Nat.not_le.mpr below)]
      rfl
    · rw [exec_detectorTriple high due ready, Detector.treat_quiet _ _ (by exact state)]
      unfold Detector.quietTriple
      dsimp only
      rw [if_pos (by exact above)]
      rfl
  · intro s d high due ready
    refine ⟨fun state => ?_, fun state => ?_⟩
    · rw [exec_detectorTriple high due ready, Detector.treat_warmup _ _ (by exact state)]
      unfold Detector.warmupTriple
      dsimp only
      split <;> rfl
    · rw [exec_detectorTriple high due ready, Detector.treat_recovery _ _ (by exact state)]
      rfl

theorem Detector.secondaryTest_rise {x : Detector} {ep : Episode} (rise : ep.sref * x.settings.k2 ≤ 16 * x.short)
    (apart : x.settings.separation ≤ ep.since) (at_ : Ref) : x.secondaryTest ep at_ = { x with
      episode := some { ep with sref := x.short, since := 0 }
      requests := x.requests ++ [.createSecondary ep.number at_ ep.sref ep.confirmed] } := by
  unfold Detector.secondaryTest
  simp [rise, apart]

theorem Detector.secondaryTest_none {x : Detector} {ep : Episode}
    (none : ¬(ep.sref * x.settings.k2 ≤ 16 * x.short ∧ x.settings.separation ≤ ep.since)) (at_ : Ref) :
    x.secondaryTest ep at_ = { x with episode := some ep } := by
  unfold Detector.secondaryTest
  rw [if_neg (by simpa using none)]

/-- A confirmed episode, or one below the min duration, has no confirmation due. -/
theorem confirmation_not_due {confirmed : Bool} {n m : Nat} (settled : confirmed = true ∨ m < n) :
    ¬((!confirmed && decide (n ≤ m)) = true) := by
  rcases settled with rfl | below
  · simp
  · simp [below]

/-- Settles O13: release, then the forced release, then the confirmation, then the secondary test. -/
theorem triggeredTripleReleasesOrGoesOn : Obligations.TriggeredTripleReleasesOrGoesOn := by
  intro s d ep high state episode due ready x p t S r ep' y after
  rw [exec_detectorTriple high due ready, Detector.treat_triggered _ _ (by exact state) (by exact episode)]
  unfold Detector.triggeredTriple
  dsimp only
  refine ⟨fun below => ?_, fun above long => ?_, fun above short unconfirmed reached => ?_, fun above short settled => ⟨fun rise => ?_, fun none => ?_⟩⟩
  · rw [if_pos (by exact below)]
    rfl
  · rw [if_neg (by exact Nat.not_lt.mpr above), if_pos (by exact long)]
    rfl
  · rw [if_neg (by exact Nat.not_lt.mpr above), if_neg (by exact Nat.not_le.mpr short),
      if_pos (by exact Bool.and_eq_true_iff.mpr ⟨by rw [unconfirmed]; rfl, decide_eq_true reached⟩)]
    rfl
  · rw [if_neg (by exact Nat.not_lt.mpr above), if_neg (by exact Nat.not_le.mpr short),
      if_neg (by exact confirmation_not_due settled),
      Detector.secondaryTest_rise (by exact rise.1) (by exact rise.2)]
    rfl
  · rw [if_neg (by exact Nat.not_lt.mpr above), if_neg (by exact Nat.not_le.mpr short),
      if_neg (by exact confirmation_not_due settled),
      Detector.secondaryTest_none (by exact none)]
    rfl

/-! ## The second half of a triple's treatment -/

theorem exec_confirmation {s : State} (high : s.resetLow = false) (d : Det) :
    exec (.confirmation d) s = .next (s.setDet d (s.det d).confirmEpisode) := by
  change Host.Outcome.next (s.live _) = _
  rw [State.live_high high]

theorem exec_forcedRelease {s : State} (high : s.resetLow = false) (d : Det) :
    exec (.forcedRelease d) s = .next (s.setDet d (s.det d).forceRelease) := by
  change Host.Outcome.next (s.live _) = _
  rw [State.live_high high]

theorem exec_warmupEnd {s : State} (high : s.resetLow = false) (d : Det) :
    exec (.warmupEnd d) s = .next (s.setDet d (s.det d).endWarmup) := by
  change Host.Outcome.next (s.live _) = _
  rw [State.live_high high]

theorem exec_recoveryEnd {s : State} (high : s.resetLow = false) (d : Det) :
    exec (.recoveryEnd d) s = .next (s.setDet d (s.det d).endRecovery) := by
  change Host.Outcome.next (s.live _) = _
  rw [State.live_high high]

section Due

variable {x : Detector}

theorem Detector.confirmEpisode_due {here : Ref} {ep : Episode} (due : x.due = some (.confirmation here))
    (episode : x.episode = some ep) : x.confirmEpisode =
      { x with due := none, requests := x.requests ++ [DetRequest.confirm ep.number] }.secondaryTest { ep with confirmed := true } here := by
  unfold Detector.confirmEpisode
  rw [due, episode]

theorem Detector.confirmEpisode_idle (none : ∀ here, x.due ≠ some (.confirmation here)) : x.confirmEpisode = x := by
  unfold Detector.confirmEpisode
  split
  · rename_i due _
    exact absurd due (none _)
  · rfl

theorem Detector.forceRelease_due {ep : Episode} (due : x.due = some .forcedRelease) (episode : x.episode = some ep) :
    x.forceRelease = { x with due := none, long := x.short, requests := x.requests ++ [DetRequest.markLong ep.number] }.recover := by
  unfold Detector.forceRelease
  rw [due, episode]

theorem Detector.forceRelease_idle (none : x.due ≠ some .forcedRelease) : x.forceRelease = x := by
  unfold Detector.forceRelease
  split
  · rename_i due _
    exact absurd due none
  · rfl

end Due

/-- Settles O14: each command unfolds on what is due, and is idle where it is not. -/
theorem secondHalfOfATriplesTreatment : Obligations.SecondHalfOfATriplesTreatment := by
  intro s d high x p after
  refine ⟨fun ep here due episode => ⟨fun rise => ?_, fun none => ?_⟩, fun ep due episode => ?_, fun due => ?_, fun due => ?_, fun none => ?_,
    fun none => ?_, fun none => ?_, fun none => ?_⟩
  · rw [exec_confirmation high, Detector.confirmEpisode_due due episode,
      Detector.secondaryTest_rise (by exact rise.1) (by exact rise.2)]
    simp only [List.append_assoc, List.cons_append, List.nil_append]
    rfl
  · rw [exec_confirmation high, Detector.confirmEpisode_due due episode, Detector.secondaryTest_none (by exact none)]
  · rw [exec_forcedRelease high, Detector.forceRelease_due due episode]
    rfl
  · rw [exec_warmupEnd high, Detector.endWarmup, if_pos due]
  · rw [exec_recoveryEnd high, Detector.endRecovery, if_pos due]
  · rw [exec_confirmation high, Detector.confirmEpisode_idle none, State.setDet_det]
  · rw [exec_forcedRelease high, Detector.forceRelease_idle none, State.setDet_det]
  · rw [exec_warmupEnd high, Detector.endWarmup, if_neg none, State.setDet_det]
  · rw [exec_recoveryEnd high, Detector.endRecovery, if_neg none, State.setDet_det]

/-! ## Signals -/

/-- A signal that may be taken, between two treatments, of a cause asked for. -/
theorem State.detectorSignal_taken {s : State} {d : Det} {c : Cause} {want : Cause → Bool} (due : (s.det d).due = none)
    (signal : (s.det d).feed.signalReady = some c) (wanted : want c = true) :
    s.detectorSignal d want = s.setDet d (s.det d).interrupt := by
  unfold State.detectorSignal
  dsimp only
  rw [signal]
  dsimp only
  rw [if_pos (by rw [wanted, due]; rfl)]

theorem exec_detectorDiscontinuity {s : State} {d : Det} {c : Cause} (high : s.resetLow = false) (due : (s.det d).due = none)
    (signal : (s.det d).feed.signalReady = some c) (other : c ≠ .flush) :
    exec (.detectorDiscontinuity d) s = .next (s.setDet d (s.det d).interrupt) := by
  change Host.Outcome.next (s.live _) = _
  rw [State.live_high high, State.detectorSignal_taken due signal (by simpa using other)]

theorem exec_detectorFlush {s : State} {d : Det} (high : s.resetLow = false) (due : (s.det d).due = none)
    (signal : (s.det d).feed.signalReady = some .flush) :
    exec (.detectorFlush d) s = .next (s.setDet d (s.det d).interrupt).finishFlush := by
  change Host.Outcome.next (s.live _) = _
  rw [State.live_high high, State.detectorSignal_taken due signal rfl]

theorem Detector.interrupt_off {x : Detector} (off : x.state = .off) : x.interrupt = { x with feed := x.feed.takeSignal } := by
  unfold Detector.interrupt
  rw [if_pos off]

theorem Detector.interrupt_on {x : Detector} (on : x.state ≠ .off) : x.interrupt = { x with feed := x.feed.takeSignal }.warm := by
  unfold Detector.interrupt
  rw [if_neg on]

theorem Detector.warm_idle {x : Detector} (due : x.due = none) : x.warm =
    { x with state := .warmup, warmupCount := 0, recoveryCount := 0, ratio := 0, episode := none } := by
  unfold Detector.warm
  rw [← due]

/-- Settles O16: a detector that is not OFF warms up again, with nothing due as before. -/
theorem signalRestartsTheWarmup : Obligations.SignalRestartsTheWarmup := by
  intro s d c high on due signal x u
  have warmed : s.setDet d (s.det d).interrupt = u := by
    rw [Detector.interrupt_on on, Detector.warm_idle (by exact due)]
    rfl
  refine ⟨fun other => ?_, fun flush => ?_⟩
  · rw [exec_detectorDiscontinuity high due signal other, warmed]
  · rw [exec_detectorFlush high due (flush ▸ signal), warmed]

/-! ## OFF -/

/-- The enable of a detector's settings. -/
def State.enabled (s : State) (d : Det) : Bool := (s.det d).settings.enabled

/-- No command but DETS and the resets enables or disables a detector. -/
theorem exec_enabled {c : Instr} {s t : State} (h : exec c s = .next t) (d : Det) (notDets : c ≠ .dets) (notRstr : c ≠ .rstr)
    (notLow : c ≠ .resetnLow) (notPin : ∀ a b, c ≠ .pinReset a b) : t.enabled d = s.enabled d := by
  have framed (outside : (footprint c).contains .settings = false) : t.enabled d = s.enabled d := by
    have settings : t.allSettings = s.allSettings := exec_same h .settings outside
    simp only [State.allSettings, Prod.mk.injEq] at settings
    obtain ⟨-, v, hh, -⟩ := settings
    unfold State.enabled
    cases d with
    | v => exact congrArg DetSettings.enabled v
    | h => exact congrArg DetSettings.enabled hh
  have message {wanted : InMsg → Bool} {owners : InMsg → State → Bool} {take : InMsg → State → State}
      (h : (Host.Outcome.next (s.live fun s => s.decode wanted owners take) : Answer) = .next t)
      (each : ∀ m, (take m s.popMessage).enabled d = s.enabled d) : t.enabled d = s.enabled d :=
    keeps_message (P := fun u => u.enabled d = s.enabled d) rfl h fun m _ _ _ _ => each m
  cases c with
  | dets => exact absurd rfl notDets
  | rstr => exact absurd rfl notRstr
  | resetnLow => exact absurd rfl notLow
  | pinReset a b => exact absurd rfl (notPin a b)
  | inpt =>
    refine message h fun m => ?_
    unfold takeInpt
    split <;> rfl
  | onst => exact message h fun _ => rfl
  | phas => exact message h fun _ => rfl
  | evts => exact message h fun _ => rfl
  | snip => exact message h fun _ => rfl
  | qset =>
    refine message h fun m => ?_
    unfold takeQset
    dsimp only
    split
    · rfl
    · split
      · rfl
      · rename_i i _
        obtain ⟨x, ns, -, eq⟩ := s.popMessage.putQueue_eq i ((s.popMessage.queues.get i).applyQset (takeFields [1, 1, 2] m.body))
        rw [eq]
        rfl
  | _ => exact framed rfl

/-- A coherent detector is OFF exactly when it is disabled. -/
theorem Detector.coherent.off_iff {x : Detector} (h : x.coherent) : x.state = .off ↔ x.settings.enabled = false :=
  (x.coherent_iff.mp h).2.1

/-- Settles O15: in OFF only the feed moves; and as OFF goes with the enable, which no other command changes, none enters or leaves
it. -/
theorem offDetectorTreatsNothing : Obligations.OffDetectorTreatsNothing := by
  refine ⟨fun s d high off due => ⟨fun ready => ?_, fun c signal other => ?_, fun signal => ?_⟩, ?_⟩
  · rw [exec_detectorTriple high due ready, Detector.treat_off _ _ (by exact off)]
    rfl
  · rw [exec_detectorDiscontinuity high due signal other, Detector.interrupt_off off]
    rfl
  · rw [exec_detectorFlush high due signal, Detector.interrupt_off off]
    rfl
  · intro c s t d coherent h notDets notRstr notLow notPin
    have same : (t.det d).settings.enabled = (s.det d).settings.enabled := exec_enabled h d notDets notRstr notLow notPin
    rw [coherent.off_iff, (coherent_exec d c s t coherent h).off_iff, same]

end Sys2Proof.Machine
end

section
/-! DETS (R39 to R46): what it stores, when its ACKN is CLAMPED, and what it makes of a detector's state. -/

namespace Sys2Proof.Machine

/-! ## The fields stored -/

/-- DETS's field `i` in force: at its nearest limit where it arrived, else the setting before. -/
def putField (fs : List Nat) (i lo hi old : Nat) : Nat := (fs[i]?.map fun v => max lo (min hi v)).getD old

theorem setting_putField (fs : List Nat) (i lo hi old : Nat) : setting fs i lo hi old = putField fs i lo hi old :=
  setting_eq fs i lo hi old

theorem flagSetting_eq (fs : List Nat) (i : Nat) (old : Bool) :
    flagSetting fs i old = (fs[i]?.map fun v => decide (v ≠ 0)).getD old := by
  unfold flagSetting
  cases fs[i]? <;> rfl

theorem DetSettings.stored_eq (p : DetSettings) (fs : List Nat) : (p.store fs).pairs =
    { enabled := (fs[1]?.map fun v => decide (v ≠ 0)).getD p.enabled
      ks := putField fs 2 1 8 p.ks
      kl := max (putField fs 3 4 14 p.kl) (putField fs 2 1 8 p.ks + 3)
      lmin := putField fs 4 1 4294967295 p.lmin
      onLevel := putField fs 5 20 4095 p.onLevel
      offLevel := if putField fs 5 20 4095 p.onLevel ≤ putField fs 6 16 4094 p.offLevel then putField fs 5 20 4095 p.onLevel - 1
        else putField fs 6 16 4094 p.offLevel
      minDuration := putField fs 7 1 255 p.minDuration
      maxDuration := putField fs 8 1 65535 p.maxDuration
      k2 := putField fs 9 24 255 p.k2
      separation := putField fs 10 1 4095 p.separation
      recovery := putField fs 11 0 4095 p.recovery } := by
  simp only [DetSettings.store, DetSettings.pairs, setting_putField, flagSetting_eq]

/-- The pair checks change settings exactly where a pair is out of order. -/
theorem DetSettings.pairs_ne_iff (p : DetSettings) :
    p.pairs ≠ p ↔ p.kl < p.ks + 3 ∨ (p.onLevel ≤ p.offLevel ∧ 0 < p.offLevel) := by
  obtain ⟨enabled, ks, kl, lmin, on, off, minD, maxD, k2, sep, rec⟩ := p
  simp only [DetSettings.pairs, ne_eq, DetSettings.mk.injEq, true_and, and_true]
  by_cases order : on ≤ off
  · rw [if_pos order]
    omega
  · rw [if_neg order]
    omega

theorem Detector.detsAdjusted_iff (x : Detector) (fs : List Nat) : x.detsAdjusted fs = true ↔
    putField fs 3 4 14 x.settings.kl < putField fs 2 1 8 x.settings.ks + 3 ∨
      (putField fs 5 20 4095 x.settings.onLevel ≤ putField fs 6 16 4094 x.settings.offLevel ∧
        0 < putField fs 6 16 4094 x.settings.offLevel) := by
  unfold Detector.detsAdjusted
  rw [bne_iff_ne, DetSettings.pairs_ne_iff]
  simp only [DetSettings.store, setting_putField]

/-! ## The selector and CLAMPED -/

/-- The selector names a detector (R39). -/
theorem detsSelects_iff (fs : List Nat) (d : Det) :
    detsSelects fs d = true ↔ ∃ v, fs[0]? = some v ∧ (v = (match d with | .v => 0 | .h => 1) ∨ 2 ≤ v) := by
  unfold detsSelects
  cases fs[0]? with
  | none => simp
  | some v => cases d <;> simp [or_comm]

theorem detsClamped_iff (fs : List Nat) : detsClamped fs = true ↔
    outside fs 0 0 2 = true ∨ outside fs 2 1 8 = true ∨ outside fs 3 4 14 = true ∨ outside fs 4 1 4294967295 = true ∨
      outside fs 5 20 4095 = true ∨ outside fs 6 16 4094 = true ∨ outside fs 7 1 255 = true ∨ outside fs 8 1 65535 = true ∨
      outside fs 9 24 255 = true ∨ outside fs 10 1 4095 = true ∨ outside fs 11 0 4095 = true := by
  simp only [detsClamped, Bool.or_eq_true, or_assoc]

/-- DETS's ACKN is CLAMPED exactly by its limits. -/
theorem detsClamped_or_adjusted (s : State) (fs : List Nat) :
    (detsClamped fs || (detsSelects fs .v && s.detV.detsAdjusted fs) || (detsSelects fs .h && s.detH.detsAdjusted fs)) = true ↔
      s.detsClamps fs := by
  have adjusted : ((detsSelects fs .v && s.detV.detsAdjusted fs) = true ∨ (detsSelects fs .h && s.detH.detsAdjusted fs) = true) ↔
      ∃ d, detsSelects fs d = true ∧ (s.det d).detsAdjusted fs = true := by
    simp only [Bool.and_eq_true]
    exact ⟨fun h => h.elim (fun v => ⟨.v, v⟩) fun h => ⟨.h, h⟩, fun ⟨d, h⟩ => match d with | .v => .inl h | .h => .inr h⟩
  rw [Bool.or_eq_true, Bool.or_eq_true, or_assoc, adjusted, detsClamped_iff]
  simp only [outside_iff, detsSelects_iff, Detector.detsAdjusted_iff, or_assoc, putField]
  unfold State.detsClamps
  dsimp only
  refine or_congr_right <| or_congr_right <| or_congr_right <| or_congr_right <| or_congr_right <| or_congr_right <| or_congr_right <|
    or_congr_right <| or_congr_right <| or_congr_right <| or_congr_right ?_
  exact exists_congr fun d => ⟨fun ⟨⟨v, h, sel⟩, adj⟩ => ⟨v, h, sel, adj⟩, fun ⟨v, h, sel, adj⟩ => ⟨⟨v, h, sel⟩, adj⟩⟩

/-! ## The effect on a state -/

/-- What the end of an unconfirmed episode in progress asks for (R41, R44). -/
def Detector.ending (x : Detector) : List DetRequest :=
  match x.state, x.episode with
  | .triggered, some ep => ep.closing x.settings.minDuration
  | _, _ => []

theorem Detector.ending_open {x : Detector} {ep : Episode} (state : x.state = .triggered) (episode : x.episode = some ep) :
    x.ending = ep.closing x.settings.minDuration := by
  unfold Detector.ending
  rw [state, episode]

theorem Detector.ending_none {x : Detector} (none : ∀ ep, x.state = .triggered → x.episode = some ep → False) : x.ending = [] := by
  unfold Detector.ending
  split
  · rename_i ep state episode
    exact (none ep state episode).elim
  · rfl

/-- An episode ended: its requests made, no episode left (where the state is to change, so that none may stay). -/
theorem Detector.endEpisode_requests (x : Detector) :
    ({ x.endEpisode with episode := none } : Detector) = { x with episode := none, requests := x.requests ++ x.ending } := by
  unfold Detector.endEpisode
  split
  · rename_i ep state episode
    rw [Detector.ending_open state episode]
  · rename_i other
    rw [Detector.ending_none fun ep state episode => other ep state episode, List.append_nil]

section Effect

variable {x : Detector} {fs : List Nat}

theorem Detector.takeDets_disable (field : fs[1]? = some 0) :
    x.takeDets fs = ({ x with settings := (x.settings.store fs).pairs } : Detector).disable := by
  unfold Detector.takeDets Detector.detsEffect
  rw [field]
  rfl

theorem Detector.disable_off (off : x.state = .off) : x.disable = x := by
  unfold Detector.disable
  rw [if_pos off]

theorem Detector.disable_on (on : x.state ≠ .off) : x.disable =
    { x with state := .off, ratio := 0, warmupCount := 0, recoveryCount := 0, episode := none, requests := x.requests ++ x.ending } := by
  unfold Detector.disable
  rw [if_neg on]
  have ended := x.endEpisode_requests
  obtain ⟨ep, rs, eq⟩ := x.endEpisode_eq
  rw [eq] at ended ⊢
  have requests : rs = x.requests ++ x.ending := congrArg Detector.requests ended
  rw [requests]

theorem Detector.endEpisode_warm (x : Detector) : x.endEpisode.warm =
    { x with
      state := .warmup, ratio := 0, warmupCount := 0, recoveryCount := 0, episode := none, due := none
      requests := x.requests ++ x.ending } := by
  have ended := x.endEpisode_requests
  obtain ⟨ep, rs, eq⟩ := x.endEpisode_eq
  rw [eq] at ended ⊢
  have requests : rs = x.requests ++ x.ending := congrArg Detector.requests ended
  rw [requests]
  rfl

/-- A DETS that does not disable: OFF is left where the enable arrived, any other state where a shift changed. -/
theorem Detector.takeDets_enabled (field : fs[1]? ≠ some 0) : x.takeDets fs =
    if x.state = .off then
      (if fs[1]?.isSome then ({ x with settings := (x.settings.store fs).pairs } : Detector).warm
        else { x with settings := (x.settings.store fs).pairs })
    else if x.settings.ks ≠ (x.settings.store fs).pairs.ks ∨ x.settings.kl ≠ (x.settings.store fs).pairs.kl then
      ({ x with settings := (x.settings.store fs).pairs } : Detector).endEpisode.warm
    else { x with settings := (x.settings.store fs).pairs } := by
  unfold Detector.takeDets Detector.detsEffect
  split
  · exact absurd (by assumption) field
  · simp only [Bool.or_eq_true, decide_eq_true_eq]

theorem Detector.takeDets_off_stays (off : x.state = .off) (none : fs[1]? = none) :
    x.takeDets fs = { x with settings := (x.settings.store fs).pairs } := by
  rw [Detector.takeDets_enabled (by rw [none]; exact (Option.some_ne_none 0).symm), if_pos off, none]
  rfl

theorem Detector.takeDets_off_enabled (off : x.state = .off) (enabled : ∃ w, fs[1]? = some w ∧ w ≠ 0) :
    x.takeDets fs = ({ x with settings := (x.settings.store fs).pairs } : Detector).warm := by
  obtain ⟨w, field, positive⟩ := enabled
  rw [Detector.takeDets_enabled (by rw [field]; simpa using positive), if_pos off, field]
  rfl

theorem Detector.takeDets_shift (field : fs[1]? ≠ some 0) (on : x.state ≠ .off)
    (shift : (x.settings.store fs).pairs.ks ≠ x.settings.ks ∨ (x.settings.store fs).pairs.kl ≠ x.settings.kl) :
    x.takeDets fs = ({ x with settings := (x.settings.store fs).pairs } : Detector).endEpisode.warm := by
  rw [Detector.takeDets_enabled field, if_neg on, if_pos (shift.imp Ne.symm Ne.symm)]

theorem Detector.takeDets_same (field : fs[1]? ≠ some 0) (on : x.state ≠ .off)
    (ks : (x.settings.store fs).pairs.ks = x.settings.ks) (kl : (x.settings.store fs).pairs.kl = x.settings.kl) :
    x.takeDets fs = { x with settings := (x.settings.store fs).pairs } := by
  rw [Detector.takeDets_enabled field, if_neg on, if_neg (by simp [ks, kl])]

end Effect

/-! ## The command -/

/-- DETS, with the selected detectors between two triples. -/
theorem exec_dets {s : State} {m : InMsg} (h : s.decodes m) (code : m.code = 0x0C)
    (due : ∀ d, detsSelects (detsFields m) d = true → (s.det d).due = none) :
    exec .dets s = .next (({ s.popMessage with
      detV := if detsSelects (detsFields m) .v then s.detV.takeDets (detsFields m) else s.detV
      detH := if detsSelects (detsFields m) .h then s.detH.takeDets (detsFields m) else s.detH }).reply
        (.ackn 0x0C
          (detsClamped (detsFields m) || (detsSelects (detsFields m) .v && s.detV.detsAdjusted (detsFields m)) ||
            (detsSelects (detsFields m) .h && s.detH.detsAdjusted (detsFields m)))
          m.isBroken (detsFields m).length)) := by
  have owners : detsOwners m s = true := by
    have ready (d : Det) : (!detsSelects (detsFields m) d || (s.det d).due.isNone) = true := by
      cases selected : detsSelects (detsFields m) d with
      | false => rfl
      | true => rw [due d selected]; rfl
    exact Bool.and_eq_true_iff.mpr ⟨ready .v, ready .h⟩
  change Host.Outcome.next (s.live _) = _
  rw [State.live_decode_taken h (by simpa using code) owners, ← code]
  rfl

/-- The detectors and the ACKN that DETS leaves. -/
theorem exec_dets_result {s : State} {m : InMsg} (h : s.decodes m) (code : m.code = 0x0C)
    (due : ∀ d, detsSelects (detsFields m) d = true → (s.det d).due = none) :
    ∃ (v h : Detector) (clamped : Bool),
      exec .dets s = .next (({ s.popMessage with detV := v, detH := h }).reply
        (.ackn 0x0C clamped m.isBroken (detsFields m).length)) ∧
      (clamped = true ↔ s.detsClamps (detsFields m)) ∧
      (detsSelects (detsFields m) .v = true → v = s.detV.takeDets (detsFields m)) ∧
      (¬detsSelects (detsFields m) .v = true → v = s.detV) ∧
      (detsSelects (detsFields m) .h = true → h = s.detH.takeDets (detsFields m)) ∧
      (¬detsSelects (detsFields m) .h = true → h = s.detH) :=
  ⟨_, _, _, exec_dets h code due, detsClamped_or_adjusted s (detsFields m), fun sel => if_pos sel, fun sel => if_neg sel,
    fun sel => if_pos sel, fun sel => if_neg sel⟩

/-- Settles O17: the message leaves every selected detector's state, so that its settings alone change. -/
theorem detsStoresTheSelectedSettings : Obligations.DetsStoresTheSelectedSettings := by
  intro s m h code fs selected put new hyp
  have selects (d : Det) : detsSelects (detsFields m) d = true ↔ selected d := detsSelects_iff fs d
  obtain ⟨v, hh, clamped, run, clamp, v1, v0, h1, h0⟩ := exec_dets_result h code fun d sel => (hyp d ((selects d).mp sel)).1
  have stored (d : Det) (sel : selected d) :
      (s.det d).takeDets (detsFields m) = { s.det d with settings := new (s.det d).settings } := by
    obtain ⟨-, field, off, on⟩ := hyp d sel
    have new_eq : new (s.det d).settings = ((s.det d).settings.store fs).pairs := ((s.det d).settings.stored_eq fs).symm
    rw [new_eq] at on ⊢
    by_cases state : (s.det d).state = .off
    · exact Detector.takeDets_off_stays state (off state)
    · obtain ⟨ks, kl⟩ := on state
      exact Detector.takeDets_same field state ks kl
  exact ⟨v, hh, clamped, run, clamp, fun sel => (v1 ((selects .v).mpr sel)).trans (stored .v sel),
    fun sel => v0 (mt (selects .v).mp sel), fun sel => (h1 ((selects .h).mpr sel)).trans (stored .h sel),
    fun sel => h0 (mt (selects .h).mp sel)⟩

/-- The detector that DETS leaves in a state selected. -/
theorem exec_dets_det {s : State} {m : InMsg} (h : s.decodes m) (code : m.code = 0x0C) (dueV : s.detV.due = none)
    (dueH : s.detH.due = none) {d : Det} (sel : detsSelects (detsFields m) d = true) :
    ∃ t, exec .dets s = .next t ∧ t.det d = (s.det d).takeDets (detsFields m) := by
  refine ⟨_, exec_dets h code fun d _ => by cases d <;> assumption, ?_⟩
  cases d with
  | v => exact if_pos sel
  | h => exact if_pos sel

/-- Settles O18: enabling leaves OFF alone, disabling and changes of a shift end the episode in progress, and the command does so to
every selected detector. -/
theorem detsChangesTheDetectorState : Obligations.DetsChangesTheDetectorState := by
  refine ⟨?_, ?_, ?_⟩
  · intro s d m h code dueV dueH fs v selector sel enable
    have named : detsSelects (detsFields m) d = true := (detsSelects_iff fs d).mpr ⟨v, selector, by cases d <;> exact sel⟩
    obtain ⟨t, run, det⟩ := exec_dets_det h code dueV dueH named
    have field : (detsFields m)[1]? ≠ some 0 := by
      obtain ⟨w, field, positive⟩ := enable
      rw [show (detsFields m)[1]? = some w from field]
      simpa using positive
    refine ⟨t, run, fun off => ?_, fun on ks kl => ?_⟩
    · rw [Detector.takeDets_off_enabled (fs := detsFields m) off enable] at det
      rw [det]
      refine ⟨rfl, rfl, rfl, fun u high same ready => ?_⟩
      have run := exec_detectorTriple high (by rw [same]; rfl) ready
      rw [Detector.treat_warmup _ _ (by rw [same]; rfl)] at run
      have first : (u.det d).warmupCount = 0 := by rw [same]; rfl
      refine ⟨_, run, ?_, ?_⟩
      all_goals
        rw [State.setDet_det_self]
        unfold Detector.warmupTriple
        dsimp only
        rw [if_pos first]
    · rw [det]
      rw [det, (Detector.takeDets_keeps _ _).2.2] at ks kl
      rw [Detector.takeDets_same field on ks kl]
  · intro x fs p ending
    refine ⟨fun field off => ?_, fun field on => ?_, fun field on shift => ?_, fun off none => ?_, fun off enabled => ?_,
      fun field on ks kl => ?_⟩
    · rw [Detector.takeDets_disable field, Detector.disable_off (by exact off)]
    · rw [Detector.takeDets_disable field, Detector.disable_on (by exact on)]
      rfl
    · rw [Detector.takeDets_shift field on shift, Detector.endEpisode_warm]
      rfl
    · exact Detector.takeDets_off_stays off none
    · rw [Detector.takeDets_off_enabled off enabled]
      rfl
    · exact Detector.takeDets_same field on ks kl
  · intro s m h code fs selected due
    have selects (d : Det) : detsSelects (detsFields m) d = true ↔ selected d := detsSelects_iff fs d
    obtain ⟨v, hh, clamped, run, clamp, v1, v0, h1, h0⟩ := exec_dets_result h code fun d sel => due d ((selects d).mp sel)
    exact ⟨v, hh, clamped, run, clamp, fun sel => v1 ((selects .v).mpr sel), fun sel => v0 (mt (selects .v).mp sel),
      fun sel => h1 ((selects .h).mpr sel), fun sel => h0 (mt (selects .h).mp sel)⟩

end Sys2Proof.Machine
end

section
/-! The framer and the judgement of blocks (R3 to R9, R11 to R15). -/

namespace Sys2Proof.Machine

/-! ## The framer -/

theorem exec_sampleCharacter {s : State} (high : s.resetLow = false) (b : Byte) :
    exec (.sampleCharacter b) s = .next (s.sampleByte b) := by
  change Host.Outcome.next (s.live _) = _
  rw [State.live_high high]

theorem State.sampleByte_waiting {s : State} (b : Byte) (waiting : s.port.waiting ≠ none) : s.sampleByte b = s := by
  unfold State.sampleByte
  rw [if_pos (Option.isSome_iff_ne_none.mpr waiting)]

theorem State.sampleByte_searching {s : State} {held : Bool} (b : Byte) (idle : s.port.waiting = none)
    (framer : s.port.framer = .searching held) : s.sampleByte b = { s with port := { s.port with
      framer := if held = true ∧ b = 0x3C then .receiving [] else .searching (decide (b = 0xC3)) } } := by
  unfold State.sampleByte
  rw [idle, framer]
  by_cases pair : held = true ∧ b = 0x3C
  · rw [if_pos pair]
    simp [pair.1, pair.2]
  · rw [if_neg pair]
    simp only [Option.isSome_none, Bool.false_eq_true, if_false]
    rw [if_neg (by simpa using pair), beq_eq_decide]

theorem State.sampleByte_receiving {s : State} {bs : List Byte} (b : Byte) (idle : s.port.waiting = none)
    (framer : s.port.framer = .receiving bs) : s.sampleByte b = s.frameByte (bs ++ [b]) := by
  unfold State.sampleByte
  rw [idle, framer]
  rfl

/-- The tenth byte is the count. -/
theorem frameCount_of_getElem {bs : List Byte} {b : Byte} (h : bs[9]? = some b) : frameCount bs = b.toNat := by
  unfold frameCount
  rw [h]
  rfl

theorem frameCount_tenth {bs : List Byte} {b : Byte} (ten : (bs ++ [b]).length = 10) : frameCount (bs ++ [b]) = b.toNat := by
  have nine : bs.length = 9 := by simpa using ten
  exact frameCount_of_getElem (by rw [← nine]; exact List.getElem?_concat_length)

theorem badCount_iff (period : Nat) (bs : List Byte) : badCount period bs = true ↔
    frameCount bs = 0 ∨ 64 < frameCount bs ∨ 2 ^ 48 ≤ frameFirst bs + (frameCount bs - 1) * period := by
  simp only [badCount, Bool.or_eq_true, decide_eq_true_eq, or_assoc]

section Frame

variable {s : State} {bs : List Byte}

/-- A byte is kept before the end of the frame, unless it is a bad count. -/
theorem State.frameByte_kept (count : ¬(bs.length = 10 ∧ badCount s.period bs = true))
    (short : ¬(10 < bs.length ∧ bs.length = 12 + 9 * frameCount bs)) :
    s.frameByte bs = { s with port := { s.port with framer := .receiving bs } } := by
  unfold State.frameByte
  rw [if_neg (by simpa using count), if_neg]
  simp only [Bool.and_eq_true, decide_eq_true_eq, headerLen]
  omega

theorem State.frameByte_badCount (ten : bs.length = 10) (bad : badCount s.period bs = true) : s.frameByte bs =
    { s.search with counters := { s.counters with blocksBadCount := ctr s.counters.blocksBadCount 1 } } := by
  unfold State.frameByte
  rw [if_pos (by simp [ten, bad])]

theorem State.frameByte_end (whole : bs.length = 12 + 9 * frameCount bs) : s.frameByte bs = s.endFrame bs := by
  unfold State.frameByte
  rw [if_neg (by simp only [Bool.and_eq_true, decide_eq_true_eq, headerLen]; omega),
    if_pos (by simp only [Bool.and_eq_true, decide_eq_true_eq, headerLen]; omega)]

theorem State.endFrame_bad (wrong : (crc (bs.take (bs.length - 2))).toNat ≠ beVal (bs.drop (bs.length - 2))) : s.endFrame bs =
    { s.search with counters := { s.counters with blocksBadCheck := ctr s.counters.blocksBadCheck 1 } } := by
  unfold State.endFrame
  dsimp only
  rw [if_neg wrong]

theorem State.endFrame_good (right : (crc (bs.take (bs.length - 2))).toNat = beVal (bs.drop (bs.length - 2))) :
    s.endFrame bs = s.search.takeBlock (frameBlock (bs.take (bs.length - 2))) := by
  unfold State.endFrame
  dsimp only
  rw [if_pos right]

end Frame

/-! ## The check and the layout -/

theorem crc_append (bs : List Byte) (b : Byte) : crc (bs ++ [b]) = crcByte (crc bs) b := by
  simp [crc, List.foldl_append]

theorem crcBit_eq (r : BitVec 16) (b : Bool) : crcBit r b = if r.msb ≠ b then (r <<< 1) ^^^ 0x1021 else r <<< 1 := by
  simp only [crcBit, bne_iff_ne]

@[simp] theorem frameSamples_length (n : Nat) (bs : List Byte) : (frameSamples n bs).length = n := by
  induction n generalizing bs with
  | zero => rfl
  | succ n ih => rw [frameSamples, List.length_cons, ih]

/-- Sample `i` takes nine bytes, three for each component. -/
theorem frameSamples_get (n : Nat) (bs : List Byte) (i : Nat) (x : ZNE Int) (h : (frameSamples n bs)[i]? = some x) :
    x.z = signed24 (beVal ((bs.drop (9 * i)).take 3)) ∧ x.n = signed24 (beVal ((bs.drop (3 + 9 * i)).take 3)) ∧
      x.e = signed24 (beVal ((bs.drop (6 + 9 * i)).take 3)) := by
  induction n generalizing bs i with
  | zero => cases h
  | succ n ih =>
    cases i with
    | zero =>
      cases h
      exact ⟨rfl, rfl, rfl⟩
    | succ i =>
      have later := ih (bs.drop 9) i h
      simp only [List.drop_drop] at later
      rw [show 9 + 9 * i = 9 * (i + 1) by ring, show 9 + (3 + 9 * i) = 3 + 9 * (i + 1) by ring,
        show 9 + (6 + 9 * i) = 6 + 9 * (i + 1) by ring] at later
      exact later

/-- The check of the nine digits, the register after each digit. -/
theorem crc_digits : crc [0x31, 0x32, 0x33, 0x34, 0x35, 0x36, 0x37, 0x38, 0x39] = 0x29B1 := by
  have one : crcByte 0xFFFF 0x31 = 0xC782 := by decide
  have two : crcByte 0xC782 0x32 = 0x3DBA := by decide
  have three : crcByte 0x3DBA 0x33 = 0x5BCE := by decide
  have four : crcByte 0x5BCE 0x34 = 0x5349 := by decide
  have five : crcByte 0x5349 0x35 = 0x4560 := by decide
  have six : crcByte 0x4560 0x36 = 0x2EF4 := by decide
  have seven : crcByte 0x2EF4 0x37 = 0x7718 := by decide
  have eight : crcByte 0x7718 0x38 = 0xA12B := by decide
  have nine : crcByte 0xA12B 0x39 = 0x29B1 := by decide
  rw [crc, List.foldl_cons, one, List.foldl_cons, two, List.foldl_cons, three, List.foldl_cons, four, List.foldl_cons, five,
    List.foldl_cons, six, List.foldl_cons, seven, List.foldl_cons, eight, List.foldl_cons, nine, List.foldl_nil]

/-- Settles O5: the framer's branches, the check bit by bit, and the fields of a frame at their offsets. -/
theorem framerFindsAndChecksFrames : Obligations.FramerFindsAndChecksFrames := by
  refine ⟨fun s b high => ⟨fun waiting => ?_, fun held idle framer => ?_⟩, ?_, ⟨rfl, crc_digits, fun bs b => ?_⟩, fun v => by norm_num [signed24], ?_⟩
  · rw [exec_sampleCharacter high, State.sampleByte_waiting b waiting]
  · rw [exec_sampleCharacter high, State.sampleByte_searching b idle framer]
  · intro s bs b high idle framer whole bad
    have isBad (ten : whole.length = 10) : badCount s.period whole = true ↔ bad := by
      rw [badCount_iff, frameCount_tenth ten]
      simp only [bad, frameFirst]
      omega
    rw [exec_sampleCharacter high, State.sampleByte_receiving b idle framer]
    refine ⟨fun kept => ?_, fun ⟨ten, wrong⟩ => ?_, fun full wrong => ?_⟩
    · rw [State.frameByte_kept]
      · rintro ⟨ten, wrong⟩
        rcases kept with short | ⟨-, right⟩ | ⟨long, -⟩
        · exact absurd ten (Nat.ne_of_lt short)
        · exact right ((isBad ten).mp wrong)
        · exact absurd ten (Nat.ne_of_gt long)
      · rintro ⟨long, full⟩
        rcases kept with short | ⟨ten, -⟩ | ⟨-, other⟩
        · exact absurd long (Nat.not_lt.mpr (Nat.le_of_lt short))
        · exact absurd ten (Nat.ne_of_gt long)
        · exact other full
    · rw [State.frameByte_badCount ten ((isBad ten).mpr wrong)]
      rfl
    · rw [State.frameByte_end full, State.endFrame_bad wrong]
      rfl
  · rw [crc_append]
    simp only [crcByte, crcBit_eq]
  · intro bs bk count
    refine ⟨rfl, rfl, rfl, fun b h => frameCount_of_getElem h, frameSamples_length _ _, fun i x h => ?_⟩
    have fields := frameSamples_get (frameCount bs) (bs.drop 10) i x h
    simp only [List.drop_drop] at fields
    rw [← Nat.add_assoc, ← Nat.add_assoc] at fields
    exact fields

/-! ## A checked block -/

/-- The last check byte of a right frame hands its block on to the tests. -/
theorem exec_checksBlock {s : State} {b : Byte} {bk : Block} (h : s.checksBlock b bk) :
    exec (.sampleCharacter b) s = .next (s.search.takeBlock bk) := by
  obtain ⟨high, idle, bs, framer, whole, right, rfl⟩ := h
  rw [exec_sampleCharacter high, State.sampleByte_receiving b idle framer, State.frameByte_end whole, State.endFrame_good right]

section Tests

variable {s : State} {bk : Block}

theorem State.takeBlock_stopped (stream : bk.stream = s.port.settings.stream) (input : s.port.input = .stopped) :
    s.takeBlock bk = s.countGood := by
  unfold State.takeBlock
  rw [if_neg (not_not.mpr stream), input]

theorem SamplePort.isDuplicate_iff (p : SamplePort) (bk : Block) :
    p.isDuplicate bk = true ↔ p.lastSeq = some bk.sequence ∧ ∃ x, p.expected = some x ∧ bk.first ≤ x := by
  unfold SamplePort.isDuplicate
  rw [Bool.and_eq_true, beq_iff_eq]
  cases p.expected <;> simp

theorem State.takeBlock_duplicate (stream : bk.stream = s.port.settings.stream) (input : s.port.input = .running)
    (dup : s.port.isDuplicate bk = true) : s.takeBlock bk =
      { s with counters := { s.counters with blocksDuplicate := ctr s.counters.blocksDuplicate 1 } } := by
  unfold State.takeBlock
  rw [if_neg (not_not.mpr stream), input]
  dsimp only
  rw [if_pos dup]

/-- A candidate block in HUNTING or RUNNING is offered for delivery. -/
theorem State.takeBlock_offered (stream : bk.stream = s.port.settings.stream) (input : s.port.input ≠ .stopped)
    (fresh : ¬(s.port.input = .running ∧ s.port.isDuplicate bk = true)) : s.takeBlock bk = s.countGood.offerBlock bk := by
  unfold State.takeBlock
  rw [if_neg (not_not.mpr stream)]
  cases state : s.port.input with
  | stopped => exact absurd state input
  | hunting => rfl
  | running =>
    dsimp only
    rw [if_neg fun dup => fresh ⟨state, dup⟩]

theorem State.offerBlock_idle (idle : s.port.delivering = []) : s.offerBlock bk = s.judge bk := by
  unfold State.offerBlock
  rw [idle]
  rfl

theorem State.offerBlock_busy (busy : s.port.delivering ≠ []) :
    s.offerBlock bk = { s with port := { s.port with waiting := some bk } } := by
  unfold State.offerBlock
  rw [if_neg (by simpa [List.isEmpty_iff] using busy)]

/-! ## Judgement -/

/-- How many triples are missing before a block that comes half a period late or more, when `x` was expected (R13). -/
def State.missing (s : State) (bk : Block) (x : Nat) : Nat :=
  (((bk.first : Int) - x + (s.period / 2 : Nat)) / (s.period : Int)).toNat

/-- Delivery of a judged block (R8, R12, R13). -/
theorem State.deliver_eq (s : State) (bk : Block) (fill : List PortTriple) (disc : Bool) : s.deliver bk fill disc =
    { s with port := { s.port with
      delivering := fill ++ bk.triples s.period disc
      lastSeq := some bk.sequence
      expected := some (bk.first + bk.samples.length * s.period) } } := by
  unfold State.deliver
  rw [blockTriples_eq]
  rfl

theorem State.judge_hunting (input : s.port.input = .hunting) : s.judge bk =
    (({ s with port := { s.port with input := .running } }).notify .inputFound).deliver bk [] true := by
  unfold State.judge
  rw [input]

variable {x : Nat} (input : s.port.input = .running) (expected : s.port.expected = some x)

include input expected

/-- A block in RUNNING is judged by the distance of its first time from the expected one (R12 to R15). -/
theorem State.judge_running : s.judge bk =
    if (bk.first : Int) - x < (s.period / 2 : Nat) then
      if -(s.period / 2 : Nat) < (bk.first : Int) - x then s.deliver bk [] false
      else ((({ s with counters := { s.counters with timeBackward := ctr s.counters.timeBackward 1 } }).notify
        .inputLost).raiseSignal .time).deliver bk [] true
    else if s.missing bk x ≤ s.port.settings.fillLimit then
      ({ s with counters := s.counters.filled (s.missing bk x) }).deliver bk
          (filledTriples s.period s.ring.lastRaw (s.missing bk x) x) false
    else ((({ s with counters := { s.counters with gapsLong := ctr s.counters.gapsLong 1 } }).notify
      .inputLost).raiseSignal .gap).deliver bk [] true := by
  unfold State.judge
  rw [input, expected]
  rfl

theorem State.judge_continuous (later : -(s.period / 2 : Nat) < (bk.first : Int) - x)
    (sooner : (bk.first : Int) - x < (s.period / 2 : Nat)) : s.judge bk = s.deliver bk [] false := by
  rw [State.judge_running input expected, if_pos sooner, if_pos later]

theorem State.judge_backward (back : (bk.first : Int) - x ≤ -(s.period / 2 : Nat)) : s.judge bk =
    ((({ s with counters := { s.counters with timeBackward := ctr s.counters.timeBackward 1 } }).notify
      .inputLost).raiseSignal .time).deliver bk [] true := by
  have sooner : (bk.first : Int) - x < (s.period / 2 : Nat) ∨ s.period / 2 = 0 := by omega
  have positive : s.period / 2 ≠ 0 := by
    unfold State.period
    cases s.port.settings.rate <;> decide
  rw [State.judge_running input expected, if_pos (sooner.resolve_right positive), if_neg (by omega)]

theorem State.judge_filled (ahead : ((s.period / 2 : Nat) : Int) ≤ (bk.first : Int) - x)
    (few : s.missing bk x ≤ s.port.settings.fillLimit) : s.judge bk =
    ({ s with counters := s.counters.filled (s.missing bk x) }).deliver bk
        (filledTriples s.period s.ring.lastRaw (s.missing bk x) x) false := by
  rw [State.judge_running input expected, if_neg (by omega), if_pos few]

theorem State.judge_long (ahead : ((s.period / 2 : Nat) : Int) ≤ (bk.first : Int) - x)
    (many : s.port.settings.fillLimit < s.missing bk x) : s.judge bk =
    ((({ s with counters := { s.counters with gapsLong := ctr s.counters.gapsLong 1 } }).notify
      .inputLost).raiseSignal .gap).deliver bk [] true := by
  rw [State.judge_running input expected, if_neg (by omega), if_neg (by omega)]

end Tests

/-- A period is twice its half, so that a block half a period late leaves at least one triple missing (R13). -/
theorem SampleRate.period_half (r : SampleRate) : r.period = r.period / 2 + r.period / 2 ∧ 0 < r.period := by
  cases r <;> decide

theorem missing_pos {s : State} {d : Int} (ahead : ((s.period / 2 : Nat) : Int) ≤ d) :
    1 ≤ ((d + (s.period / 2 : Nat)) / (s.period : Int)).toNat := by
  obtain ⟨even, positive⟩ := s.port.settings.rate.period_half
  have whole : (s.period : Int) ≤ d + (s.period / 2 : Nat) := by
    unfold State.period at ahead ⊢
    omega
  have one : (1 : Int) ≤ (d + (s.period / 2 : Nat)) / (s.period : Int) :=
    (Int.le_ediv_iff_mul_le (by exact_mod_cast positive)).mpr (by rw [one_mul]; exact whole)
  omega

/-- Settles O6: the stream, the state, the duplicate and the busy buffer, in the order of the tests; and the first block of a run. -/
theorem checkedBlockMeetsItsTests : Obligations.CheckedBlockMeetsItsTests := by
  constructor
  · intro s b bk checked s0 dup
    rw [exec_checksBlock checked]
    refine ⟨fun other => ?_, fun stream => ⟨fun stopped => ?_, fun again => ?_, fun live fresh busy => ?_⟩⟩
    · unfold State.takeBlock
      rw [if_pos (by exact other)]
      rfl
    · rw [State.takeBlock_stopped (s := s.search) (by exact stream) (by exact stopped)]
      rfl
    · obtain ⟨running, seq, late⟩ := again
      rw [State.takeBlock_duplicate (s := s.search) (by exact stream) (by exact running)
        ((SamplePort.isDuplicate_iff _ bk).mpr ⟨seq, late⟩)]
      rfl
    · rw [State.takeBlock_offered (s := s.search) (by exact stream) (by exact live) fun again =>
        fresh ⟨again.1, (SamplePort.isDuplicate_iff _ bk).mp again.2⟩, State.offerBlock_busy (by exact busy)]
      rfl
  · intro s b bk checked stream hunting idle
    rw [exec_checksBlock checked, State.takeBlock_offered (s := s.search) (by exact stream) (by rw [show s.search.port.input = .hunting from hunting]; decide)
      (fun again => by rw [show s.search.port.input = .hunting from hunting] at again; cases again.1),
      State.offerBlock_idle (by exact idle), State.judge_hunting (by exact hunting), State.deliver_eq]
    rfl

/-- Settles O7: the four judgements of a block in RUNNING. -/
theorem runningBlockIsJudgedByItsTime : Obligations.RunningBlockIsJudgedByItsTime := by
  intro s b bk x checked stream running expected fresh idle period d k good after
  have judged : exec (.sampleCharacter b) s = .next (s.search.countGood.judge bk) := by
    rw [exec_checksBlock checked, State.takeBlock_offered (s := s.search) (by exact stream)
      (by rw [show s.search.port.input = .running from running]; decide) (fun again => ?_), State.offerBlock_idle (by exact idle)]
    obtain ⟨seq, y, same, late⟩ := (SamplePort.isDuplicate_iff _ bk).mp again.2
    cases expected.symm.trans same
    exact fresh ⟨seq, late⟩
  rw [judged]
  refine ⟨fun later sooner => ?_, fun ahead => ⟨missing_pos ahead, fun few => ?_, fun many => ?_⟩, fun back => ?_⟩
  · rw [State.judge_continuous (by exact running) (by exact expected) (by exact later) (by exact sooner), State.deliver_eq]
    rfl
  · rw [State.judge_filled (by exact running) (by exact expected) (by exact ahead) (by exact few), State.deliver_eq,
      filledTriples_eq]
    rfl
  · rw [State.judge_long (by exact running) (by exact expected) (by exact ahead) (by exact many), State.deliver_eq]
    rfl
  · rw [State.judge_backward (by exact running) (by exact expected) (by exact back), State.deliver_eq]
    rfl

end Sys2Proof.Machine
end

section
/-! The Conditioner and the ring (R8, R17, R20 to R23), and INPT, RUN and STOP (R10, R16, R18). -/

namespace Sys2Proof.Machine

/-! ## The triple written -/

theorem exec_conditionTriple {s : State} (high : s.resetLow = false) : exec .conditionTriple s = .next s.conditionNext := by
  change Host.Outcome.next (s.live _) = _
  rw [State.live_high high]

section Condition

variable {s : State} {t : PortTriple} {ts : List PortTriple}

theorem State.writeReady_iff (s : State) : s.writeReady = true ↔ ∀ f ∈ s.feeds, s.ring.written < f.taken + 4096 := by
  simp [State.writeReady, List.all_eq_true, Config.ringSize]

theorem State.conditionNext_ready (delivering : s.port.delivering = t :: ts) (ready : s.writeReady = true) :
    s.conditionNext = (s.handOn t ts).exchange := by
  unfold State.conditionNext
  rw [delivering]
  dsimp only
  rw [if_pos ready]

theorem State.conditionNext_waits (delivering : s.port.delivering = t :: ts) (full : ¬s.writeReady = true) : s.conditionNext = s := by
  unfold State.conditionNext
  rw [delivering]
  dsimp only
  rw [if_neg full]

/-- No exchange while triples follow or no block waits. -/
theorem State.exchange_none (h : s.port.delivering ≠ [] ∨ s.port.waiting = none) : s.exchange = s := by
  unfold State.exchange
  split
  · rename_i empty waiting
    rcases h with more | none
    · exact absurd empty more
    · cases none.symm.trans waiting
  · rfl

theorem State.exchange_some {bk : Block} (empty : s.port.delivering = []) (waiting : s.port.waiting = some bk) : s.exchange =
    ({ s with port := { s.port with waiting := none, framer := .searching false } }).judge bk := by
  unfold State.exchange
  rw [empty, waiting]

/-- The mark of a clipped sample (R21). -/
theorem isClipped_eq (level : Nat) (x : Int) : isClipped level x = decide (level ≤ x.natAbs ∨ x = -8388608) := by
  unfold isClipped
  rw [Bool.decide_or, beq_eq_decide]

/-- The triple that begins a run (R20). -/
theorem State.handOn_disc (begins : t.disc = true ∨ s.port.flushNote = true) : s.handOn t ts = { s with
    port := { s.port with delivering := ts, flushNote := false }
    offsets := some t.raw
    ring := s.ring.write ⟨t.raw, ⟨0, 0, 0⟩, t.raw.map (isClipped s.port.settings.clipLevel), t.filled, true, t.time⟩ } := by
  have disc : (t.disc || s.port.flushNote) = true := by rwa [Bool.or_eq_true]
  unfold State.handOn
  rw [disc]
  rfl

/-- A later triple of a run (R20). -/
theorem State.handOn_run {m : ZNE Int} (offsets : s.offsets = some m) (later : t.disc = false) (noNote : s.port.flushNote = false) :
    s.handOn t ts = { s with
      port := { s.port with delivering := ts, flushNote := false }
      offsets := some (ZNE.zip (nextOffset s.port.settings.shift s.port.settings.clipLevel) m t.raw)
      ring := s.ring.write
        ⟨t.raw, ZNE.zip conditioned m t.raw, t.raw.map (isClipped s.port.settings.clipLevel), t.filled, false, t.time⟩ } := by
  unfold State.handOn
  rw [offsets, later, noNote]
  rfl

end Condition

/-- The state whose waiting block is taken for delivery (R8). -/
def State.taken (s : State) : State := { s with port := { s.port with framer := .searching false, waiting := none } }

/-- The last triple of the delivering buffer makes place for a waiting block, which is judged against it (R8). -/
theorem State.conditionNext_exchanges {s : State} {t : PortTriple} {bk : Block} (delivering : s.port.delivering = [t])
    (ready : s.writeReady = true) (waiting : s.port.waiting = some bk) : s.conditionNext = (s.taken.handOn t []).judge bk := by
  rw [State.conditionNext_ready delivering ready, State.exchange_some (bk := bk) rfl (by exact waiting)]
  rfl

/-- A first time within half a period of the expected one (R12). -/
theorem timeDist_near (s : State) {a b : Nat} (near : 2 * timeDist a b < s.period) :
    (a : Int) - b < (s.period / 2 : Nat) ∧ -((s.period / 2 : Nat) : Int) < (a : Int) - b := by
  obtain ⟨even, -⟩ := s.port.settings.rate.period_half
  have half : s.period = s.period / 2 + s.period / 2 := even
  unfold timeDist at near
  omega

/-! ## Reading back (R22, R23) -/

/-- A triple still held after a write is where it was, one place further back. -/
theorem Ring.read_older {r : Ring} (t : Triple) {idx : Nat} (held : (r.write t).oldest ≤ idx) (old : idx < r.written) :
    (r.write t).read idx = r.read idx := by
  have place : r.written + 1 - 1 - idx = (r.written - 1 - idx) + 1 := by omega
  have within : r.written - 1 - idx + 1 < 4096 ∧ r.written - 1 - idx < r.held.length := by
    unfold Ring.oldest at held
    simp only [Ring.write, Config.ringSize, List.length_take, List.length_cons] at held
    omega
  unfold Ring.read
  rw [if_pos (by rw [Ring.write_written]; omega), if_pos old]
  change (((t :: r.held).take 4096)[r.written + 1 - 1 - idx]?).getD _ = _
  rw [place]
  rw [List.getElem?_take_of_lt within.1, List.getElem?_cons_succ, List.getElem?_eq_getElem within.2, Option.getD_some, Option.getD_some]

/-- Settles O8: the triple written by the cases of DISC, the wait, the exchange of the buffers by the four judgements, and the
readings. -/
theorem conditionTripleWritesTheRing : Obligations.ConditionTripleWritesTheRing := by
  refine ⟨?_, ?_, ?_, fun r t => ⟨rfl, rfl, Ring.read_newest r t, fun idx held old => Ring.read_older t held old⟩⟩
  · intro s t ts high delivering rest level clipped cond move after
    have more : (s.handOn t ts).port.delivering ≠ [] ∨ (s.handOn t ts).port.waiting = none := rest
    rw [exec_conditionTriple high]
    refine ⟨fun room => ?_, fun ⟨f, mem, behind⟩ => ?_⟩
    · rw [State.conditionNext_ready delivering ((State.writeReady_iff s).mpr room), State.exchange_none more]
      refine ⟨fun begins => ?_, fun m offsets later noNote => ?_⟩
      · rw [State.handOn_disc begins]
        simp only [after, clipped, level, ZNE.map, isClipped_eq]
        rfl
      · rw [State.handOn_run offsets later noNote]
        simp only [after, clipped, level, cond, move, ZNE.map, ZNE.zip, nextOffset, isClipped_eq]
        rfl
    · rw [State.conditionNext_waits delivering]
      rw [State.writeReady_iff]
      intro room
      exact absurd (room f mem) (Nat.not_lt.mpr behind)
  · intro s t bk x high delivering waiting running expected room near
    obtain ⟨sooner, later⟩ := timeDist_near s near
    have next : exec .conditionTriple s = .next ((s.taken.handOn t []).deliver bk [] false) := by
      rw [exec_conditionTriple high, State.conditionNext_exchanges delivering ((State.writeReady_iff s).mpr room) waiting,
        State.judge_continuous (by exact running) (by exact expected) (by exact later) (by exact sooner)]
    rw [State.deliver_eq] at next
    exact ⟨_, next, rfl, rfl, rfl, rfl, rfl⟩
  · intro s t bk x high delivering waiting running expected room half d k
    refine ⟨s.taken.handOn t [], ?_, ?_⟩
    · rw [exec_conditionTriple (by exact high), State.conditionNext_ready (by exact delivering)
        ((State.writeReady_iff _).mpr (by exact room)), State.exchange_none (Or.inr rfl)]
      rfl
    · intro after
      rw [exec_conditionTriple high, State.conditionNext_exchanges delivering ((State.writeReady_iff s).mpr room) waiting]
      refine ⟨fun later sooner => ?_, fun ahead few => ?_, fun ahead many => ?_, fun back => ?_⟩
      · rw [State.judge_continuous (by exact running) (by exact expected) (by exact later) (by exact sooner), State.deliver_eq]
        rfl
      · rw [State.judge_filled (by exact running) (by exact expected) (by exact ahead) (by exact few), State.deliver_eq,
          filledTriples_eq]
        rfl
      · rw [State.judge_long (by exact running) (by exact expected) (by exact ahead) (by exact many), State.deliver_eq]
        rfl
      · rw [State.judge_backward (by exact running) (by exact expected) (by exact back), State.deliver_eq]
        rfl

/-! ## INPT, RUN and STOP -/

/-- A first field of one byte is a byte. -/
theorem takeFields_byte {ns : List Nat} {bs : List Byte} {v : Nat} (h : (takeFields (1 :: ns) bs)[0]? = some v) : v ≤ 255 := by
  cases bs with
  | nil => cases h
  | cons b bs =>
    rw [takeFields, if_pos (by simp)] at h
    cases h
    simp only [beVal, List.take_succ_cons, List.take_zero, List.foldl_cons, List.foldl_nil]
    omega

/-- INPT's settings (R18): a one-byte field fills its range, so that only the limits that can be passed are seen. -/
theorem InputSettings.apply_eq (p : InputSettings) (m : InMsg) : p.apply (inptFields m) = {
    stream := (inptFields m)[0]?.getD p.stream
    rate := match (inptFields m)[1]? with
      | none => p.rate
      | some v => if v < 75 then .sps50 else if v < 150 then .sps100 else .sps200
    fillLimit := ((inptFields m)[2]?.map (min 16)).getD p.fillLimit
    shift := ((inptFields m)[3]?.map fun v => max 4 (min 16 v)).getD p.shift
    clipLevel := ((inptFields m)[4]?.map fun v => max 1 (min 8388607 v)).getD p.clipLevel } := by
  have stream : setting (inptFields m) 0 0 255 p.stream = (inptFields m)[0]?.getD p.stream := by
    rw [setting_eq]
    cases field : (inptFields m)[0]? with
    | none => rfl
    | some v =>
      have byte := takeFields_byte field
      simp only [Option.map_some, Option.getD_some]
      omega
  have limit : setting (inptFields m) 2 0 16 p.fillLimit = ((inptFields m)[2]?.map (min 16)).getD p.fillLimit := by
    rw [setting_eq]
    simp only [Nat.zero_max]
  unfold InputSettings.apply
  rw [stream, limit, setting_eq, setting_eq]
  rfl

theorem inptClamped_iff (fs : List Nat) : inptClamped fs = true ↔ (∃ v, fs[1]? = some v ∧ v ≠ 50 ∧ v ≠ 100 ∧ v ≠ 200) ∨
    (∃ v, fs[2]? = some v ∧ 16 < v) ∨ (∃ v, fs[3]? = some v ∧ (v < 4 ∨ 16 < v)) ∨
      ∃ v, fs[4]? = some v ∧ (v < 1 ∨ 8388607 < v) := by
  have rate : (match fs[1]? with | none => false | some v => rateOutside v) = true ↔
      ∃ v, fs[1]? = some v ∧ v ≠ 50 ∧ v ≠ 100 ∧ v ≠ 200 := by
    cases fs[1]? <;> simp [rateOutside, and_assoc]
  unfold inptClamped
  rw [Bool.or_eq_true, Bool.or_eq_true, Bool.or_eq_true, outside_iff, outside_iff, outside_iff, or_assoc, or_assoc]
  simp only [Nat.not_lt_zero, false_or]
  exact or_congr rate Iff.rfl

/-- Settles O9: the three messages by the input state they find. -/
theorem inputMessagesDriveTheInputState : Obligations.InputMessagesDriveTheInputState := by
  intro s m head
  refine ⟨?_, fun code whole => ?_, fun code whole => ?_⟩
  · intro code fs
    have taken : exec .inpt s = .next (takeInpt m s.popMessage) :=
      congrArg Host.Outcome.next (State.live_decode_taken head (beq_iff_eq.mpr code) rfl)
    rw [taken, takeInpt]
    refine ⟨fun stopped => ⟨inptClamped fs, ?_, inptClamped_iff fs⟩, fun other => ?_⟩
    · rw [if_pos (by exact stopped), ackSettings, InputSettings.apply_eq, code]
      rfl
    · rw [if_neg (by exact other), code]
  · have taken : exec .run s = .next (takeRun m s.popMessage) := by
      have acts : action 0 takeRun m s.popMessage = takeRun m s.popMessage := action_acts (by rw [whole]; decide) (Nat.zero_le _)
      rw [← acts]
      exact congrArg Host.Outcome.next (State.live_decode_taken head (beq_iff_eq.mpr code) rfl)
    rw [taken, takeRun]
    refine ⟨fun stopped => ?_, fun other => ?_⟩
    · rw [if_pos (by exact stopped), code]
      rfl
    · rw [if_neg (by exact other), code]
  · have taken : exec .stop s = .next (takeStop m s.popMessage) := by
      have acts : action 0 takeStop m s.popMessage = takeStop m s.popMessage := action_acts (by rw [whole]; decide) (Nat.zero_le _)
      rw [← acts]
      exact congrArg Host.Outcome.next (State.live_decode_taken head (beq_iff_eq.mpr code) rfl)
    rw [taken, takeStop, State.stopInput]
    refine ⟨fun stopped => ?_, fun other => ?_⟩
    · rw [if_pos (by exact stopped), code]
      rfl
    · rw [if_neg (by exact other), code]
      rfl

end Sys2Proof.Machine
end

section
/-! The choices among candidates (R71, R72, R103 to R107). -/

namespace Sys2Proof.Machine

section Best

variable {α : Type} {score : α → Option Int} {l : List α}

/-- Place `i` holds a candidate of score `v`, no other scores more, and none before it as much. -/
def leads (score : α → Option Int) (l : List α) (i : Nat) (v : Int) : Prop :=
  ∃ a, l[i]? = some a ∧ score a = some v ∧ ∀ j b w, l[j]? = some b → score b = some w → w ≤ v ∧ (j < i → w < v)

/-- Two places do not both lead. -/
theorem leads_unique {i j : Nat} {v w : Int} (first : leads score l i v) (second : leads score l j w) : i = j ∧ v = w := by
  obtain ⟨a, at_i, score_a, above_i⟩ := first
  obtain ⟨b, at_j, score_b, above_j⟩ := second
  obtain ⟨le, lt⟩ := above_i j b w at_j score_b
  obtain ⟨ge, gt⟩ := above_j i a v at_i score_a
  rcases Nat.lt_trichotomy i j with before | same | after
  · exact absurd (gt before) (not_lt.mpr le)
  · exact ⟨same, le_antisymm ge le⟩
  · exact absurd (lt after) (not_lt.mpr ge)

/-- The choice between the best so far and one candidate more at place `i`. -/
def better (score : α → Option Int) (i : Nat) (a : α) (acc : Option (Nat × Int)) : Option (Nat × Int) :=
  match score a, acc with
  | none, _ => acc
  | some v, none => some (i, v)
  | some v, some (j, w) => if w < v then some (i, v) else some (j, w)

theorem bestFrom_snoc (a : α) (i : Nat) (acc : Option (Nat × Int)) :
    bestFrom score (l ++ [a]) i acc = better score (i + l.length) a (bestFrom score l i acc) := by
  induction l generalizing i acc with
  | nil => rfl
  | cons b l ih =>
    change bestFrom score (l ++ [a]) (i + 1) _ = _
    rw [ih, List.length_cons, Nat.add_comm l.length 1, ← Nat.add_assoc]
    rfl

/-- What the best of a list is: none without a candidate, else the leading place with its score. -/
def isOutcome (score : α → Option Int) (l : List α) : Option (Nat × Int) → Prop
  | none => ∀ a ∈ l, score a = none
  | some (i, v) => leads score l i v

/-- An element of a list with one more at its end. -/
theorem getElem?_snoc {l : List α} {a b : α} {j : Nat} (h : (l ++ [a])[j]? = some b) :
    l[j]? = some b ∧ j < l.length ∨ j = l.length ∧ b = a := by
  rcases Nat.lt_or_ge j l.length with inside | outside
  · rw [List.getElem?_append_left inside] at h
    exact Or.inl ⟨h, inside⟩
  · rw [List.getElem?_append_right outside, List.getElem?_singleton] at h
    split at h
    · cases h
      exact Or.inr ⟨by omega, rfl⟩
    · cases h

/-- A leading place leads on when the element added scores no more. -/
theorem leads_snoc {a : α} {i : Nat} {v : Int} (h : leads score l i v) (low : ∀ w, score a = some w → w ≤ v) :
    leads score (l ++ [a]) i v := by
  obtain ⟨b, at_i, score_b, above⟩ := h
  have inside : i < l.length := (List.getElem?_eq_some_iff.mp at_i).1
  refine ⟨b, by rw [List.getElem?_append_left inside, at_i], score_b, fun j c w at_j score_c => ?_⟩
  rcases getElem?_snoc at_j with ⟨old, -⟩ | ⟨rfl, rfl⟩
  · exact above j c w old score_c
  · exact ⟨low w score_c, fun before => absurd before (Nat.not_lt.mpr (Nat.le_of_lt inside))⟩

/-- The element added leads when every other scores less. -/
theorem leads_last {a : α} {v : Int} (h : score a = some v) (low : ∀ (j : Nat) b w, l[j]? = some b → score b = some w → w < v) :
    leads score (l ++ [a]) l.length v := by
  refine ⟨a, by simp, h, fun j c w at_j score_c => ?_⟩
  rcases getElem?_snoc at_j with ⟨old, -⟩ | ⟨rfl, rfl⟩
  · exact ⟨le_of_lt (low j c w old score_c), fun _ => low j c w old score_c⟩
  · cases h.symm.trans score_c
    exact ⟨le_refl _, fun before => absurd before (Nat.lt_irrefl _)⟩

theorem bestFrom_outcome (score : α → Option Int) (l : List α) : isOutcome score l (bestFrom score l 0 none) := by
  induction l using List.reverseRecOn with
  | nil => exact fun a mem => absurd mem List.not_mem_nil
  | append_singleton l a ih =>
    rw [bestFrom_snoc, Nat.zero_add]
    unfold better
    cases found : bestFrom score l 0 none with
    | none =>
      rw [found] at ih
      cases value : score a with
      | none =>
        intro b mem
        rcases List.mem_append.mp mem with old | new
        · exact ih b old
        · rwa [List.mem_singleton.mp new]
      | some v =>
        refine leads_last value fun j b w at_j score_b => ?_
        cases (ih b (List.mem_of_getElem? at_j)).symm.trans score_b
    | some p =>
      obtain ⟨i, w⟩ := p
      rw [found] at ih
      cases value : score a with
      | none => exact leads_snoc ih fun x same => nomatch value.symm.trans same
      | some v =>
        dsimp only
        split
        · rename_i less
          obtain ⟨-, -, -, above⟩ := ih
          exact leads_last value fun j b x at_j score_b => lt_of_le_of_lt (above j b x at_j score_b).1 less
        · rename_i more
          refine leads_snoc ih fun x same => ?_
          cases value.symm.trans same
          exact not_lt.mp more

theorem best_none_iff : best score l = none ↔ ∀ a ∈ l, score a = none := by
  have outcome := bestFrom_outcome score l
  unfold best
  cases found : bestFrom score l 0 none with
  | none =>
    rw [found] at outcome
    exact iff_of_true rfl outcome
  | some p =>
    rw [found] at outcome
    obtain ⟨a, at_i, score_a, -⟩ := outcome
    refine iff_of_false (by simp) fun none => ?_
    cases (none a (List.mem_of_getElem? at_i)).symm.trans score_a

theorem best_some_iff {i : Nat} : best score l = some i ↔ ∃ v, leads score l i v := by
  have outcome := bestFrom_outcome score l
  unfold best
  cases found : bestFrom score l 0 none with
  | none =>
    rw [found] at outcome
    refine iff_of_false (by simp) fun ⟨v, a, at_i, score_a, _⟩ => ?_
    cases (outcome a (List.mem_of_getElem? at_i)).symm.trans score_a
  | some p =>
    rw [found] at outcome
    constructor
    · intro same
      cases same
      exact ⟨p.2, outcome⟩
    · rintro ⟨v, leading⟩
      exact congrArg some (leads_unique outcome leading).1

/-- The best by a score that is the rank of the candidates alone. -/
theorem isBest_of_score {candidate : α → Prop} {rank : α → Int} (h : ∀ a v, score a = some v ↔ candidate a ∧ v = rank a) :
    isBest l candidate rank (best score l) := by
  have absent (a : α) : score a = none ↔ ¬candidate a := by
    rw [Option.eq_none_iff_forall_ne_some]
    exact ⟨fun none is => none (rank a) ((h a _).mpr ⟨is, rfl⟩), fun not v some => not ((h a v).mp some).1⟩
  refine ⟨?_, fun i => ?_⟩
  · rw [best_none_iff]
    exact forall₂_congr fun a _ => absent a
  · rw [best_some_iff]
    constructor
    · rintro ⟨v, a, at_i, score_a, above⟩
      obtain ⟨is, rfl⟩ := (h a v).mp score_a
      exact ⟨a, at_i, is, fun j b at_j other => above j b _ at_j ((h b _).mpr ⟨other, rfl⟩)⟩
    · rintro ⟨a, at_i, is, above⟩
      refine ⟨rank a, a, at_i, (h a _).mpr ⟨is, rfl⟩, fun j b w at_j score_b => ?_⟩
      obtain ⟨other, rfl⟩ := (h b w).mp score_b
      exact above j b at_j other

end Best

/-! ## The choices of the part -/

/-- A score given under a test. -/
theorem ite_some_iff {c : Prop} [Decidable c] {x v : Int} : (if c then some x else none) = some v ↔ c ∧ v = x := by
  split <;> simp_all [eq_comm]

theorem State.coincide_iff (s : State) (a b : Nat) : s.coincide a b = true ↔ timeDist a b ≤ s.onset.onst.tolerance * s.period :=
  decide_eq_true_iff

theorem State.inSpRange_iff (s : State) (a b : Nat) : s.inSpRange a b = true ↔
    a + s.assoc.settings.spMin * s.period ≤ b ∧ b ≤ a + s.assoc.settings.spMax * s.period := by
  unfold State.inSpRange State.window
  rw [Bool.and_eq_true, decide_eq_true_iff, decide_eq_true_iff]

theorem timeDist_eq_abs (a b : Nat) : (timeDist a b : Int) = |(a : Int) - b| := by
  unfold timeDist
  rcases le_total a b with h | h
  · rw [abs_of_nonpos (by omega)]
    omega
  · rw [abs_of_nonneg (by omega)]
    omega

/-- Settles O20: the best of a list by an accumulator that is the best so far, and each choice by its score. -/
theorem bestCandidateTieGoesToTheEarlier : Obligations.BestCandidateTieGoesToTheEarlier := by
  refine ⟨fun score l => ⟨best_none_iff, fun i => ?_⟩, fun k => ?_, ?_⟩
  · rw [best_some_iff]
    exact ⟨fun ⟨v, a, leading⟩ => ⟨a, v, leading⟩, fun ⟨a, v, leading⟩ => ⟨v, a, leading⟩⟩
  · cases k <;> decide
  · intro s t c p inRange onset
    refine ⟨fun isKind => isBest_of_score fun e v => ?_, fun isKind => ⟨_, isBest_of_score fun x v => ?_, rfl⟩,
      isBest_of_score fun ev v => ?_, isBest_of_score fun ev v => ?_, isBest_of_score fun ev v => ?_,
      isBest_of_score fun ev v => ?_⟩
    · rw [ite_some_iff, Bool.and_eq_true, State.coincide_iff]
    · rw [ite_some_iff, Bool.and_eq_true, State.coincide_iff]
    · cases member : ev.p with
      | none => simp
      | some m =>
        dsimp only [onset, Option.elim]
        rw [ite_some_iff, timeDist_eq_abs]
        simp [State.window, p]
    · cases isP : ev.p with
      | some m => simp
      | none =>
        cases member : ev.s with
        | none => simp
        | some m =>
          dsimp only [onset, Option.elim]
          rw [ite_some_iff, State.inSpRange_iff]
          simp [inRange, p]
    · cases member : ev.p with
      | none => simp
      | some m =>
        cases isS : ev.s with
        | some n => simp
        | none =>
          dsimp only [onset, Option.elim]
          rw [ite_some_iff, State.inSpRange_iff]
          simp [inRange, p]
    · rw [ite_some_iff, Bool.and_eq_true, decide_eq_true_iff, decide_eq_true_iff]
      rfl

end Sys2Proof.Machine
end

section
/-! The Onset Unit: completion, measurement of a triple, and signals (R59, R66 to R70, R75, R76). -/

namespace Sys2Proof.Machine

/-! ## Completion (R66 to R70) -/

/-- The grade (R67). -/
theorem gradeOf_spec (p : PhaseSettings) (snr : Nat) :
    (p.g3 ≤ snr → gradeOf p snr = 3) ∧ (p.g2 ≤ snr → snr < p.g3 → gradeOf p snr = 2) ∧
      (p.g1 ≤ snr → snr < p.g2 → snr < p.g3 → gradeOf p snr = 1) ∧
      (snr < p.g1 → snr < p.g2 → snr < p.g3 → gradeOf p snr = 0) := by
  unfold gradeOf
  refine ⟨fun three => if_pos three, fun two low => ?_, fun one low low' => ?_, fun none low low' => ?_⟩
  · rw [if_neg (Nat.not_le.mpr low), if_pos two]
  · rw [if_neg (Nat.not_le.mpr low'), if_neg (Nat.not_le.mpr low), if_pos one]
  · rw [if_neg (Nat.not_le.mpr low'), if_neg (Nat.not_le.mpr low), if_neg (Nat.not_le.mpr none)]

/-- The classification (R68). -/
theorem classify_spec (p : PhaseSettings) (hv : Nat) : (classify p hv = .p ↔ hv ≤ p.pLimit) ∧
    (classify p hv = .s ↔ p.pLimit < hv ∧ p.sLimit ≤ hv) := by
  unfold classify
  by_cases low : hv ≤ p.pLimit
  · rw [if_pos low]
    exact ⟨iff_of_true rfl low, iff_of_false (by decide) fun high => absurd low (Nat.not_le.mpr high.1)⟩
  · rw [if_neg low]
    by_cases high : p.sLimit ≤ hv
    · rw [if_pos high]
      exact ⟨iff_of_false (by decide) low, iff_of_true rfl ⟨Nat.not_le.mp low, high⟩⟩
    · rw [if_neg high]
      exact ⟨iff_of_false (by decide) low, iff_of_false (by decide) fun s => high s.2⟩

/-- The value the first motion is read from: the first extremum, or the last value while there is none (R69). -/
def Entry.motion (e : Entry) : Int := match e.work.extremum with | some x => x.1 | none => e.work.previous

/-- The first motion is unclear unless its value is large enough and of the sign the onset had (R69). -/
theorem polarityOf_eq (e : Entry) : polarityOf e =
    if e.motion = 0 ∨ e.motion.natAbs ^ 2 < e.threshold ∨ signOf e.motion ≠ e.work.onsetSign then .unclear
    else if 0 < e.motion then .up else .down := by
  have same : polarityOf e = if e.motion = 0 || decide (e.motion.natAbs ^ 2 < e.threshold) || decide (signOf e.motion ≠ e.work.onsetSign)
      then .unclear else if 0 < e.motion then .up else .down := by
    unfold polarityOf Entry.motion
    rcases e.work.extremum <;> rfl
  rw [same]
  simp only [Bool.or_eq_true, decide_eq_true_iff, or_assoc]

theorem polarityOf_up (e : Entry) : polarityOf e = .up ↔
    e.threshold ≤ e.motion.natAbs ^ 2 ∧ 0 < e.motion ∧ e.work.onsetSign = 1 := by
  rw [polarityOf_eq]
  split
  · rename_i unclear
    refine iff_of_false (by decide) fun ⟨large, rising, sign⟩ => ?_
    have up : signOf e.motion = 1 := if_pos rising
    rcases unclear with zero | small | other
    · exact rising.ne' zero
    · exact absurd small (Nat.not_lt.mpr large)
    · exact other (up.trans sign.symm)
  · rename_i clear
    push Not at clear
    obtain ⟨-, large, sign⟩ := clear
    by_cases rising : 0 < e.motion
    · rw [if_pos rising]
      exact iff_of_true rfl ⟨large, rising, sign.symm.trans (if_pos rising)⟩
    · rw [if_neg rising]
      exact iff_of_false (by decide) fun up => rising up.2.1

theorem polarityOf_down (e : Entry) : polarityOf e = .down ↔
    e.threshold ≤ e.motion.natAbs ^ 2 ∧ e.motion < 0 ∧ e.work.onsetSign = -1 := by
  rw [polarityOf_eq]
  have down (falling : e.motion < 0) : signOf e.motion = -1 := by
    unfold signOf
    rw [if_neg (by omega), if_pos falling]
  split
  · rename_i unclear
    refine iff_of_false (by decide) fun ⟨large, falling, sign⟩ => ?_
    rcases unclear with zero | small | other
    · exact falling.ne zero
    · exact absurd small (Nat.not_lt.mpr large)
    · exact other ((down falling).trans sign.symm)
  · rename_i clear
    push Not at clear
    obtain ⟨moved, large, sign⟩ := clear
    by_cases rising : 0 < e.motion
    · rw [if_pos rising]
      exact iff_of_false (by decide) fun falling => absurd falling.2.1 (by omega)
    · rw [if_neg rising]
      have falling : e.motion < 0 := by omega
      exact iff_of_true rfl ⟨large, falling, sign.symm.trans (down falling)⟩

/-- A polarity is given to a pick reported P alone (R69). -/
theorem Entry.complete_polarity (e : Entry) {set : PhaseSettings} {lmin n : Nat} {gap : Option Cause} {m : Polarity} (clear : m ≠ .unclear) :
    (e.complete set lmin n gap).polarity = m ↔ (e.complete set lmin n gap).phase = .p ∧ polarityOf e = m := by
  change (if (e.complete set lmin n gap).phase = .p then polarityOf e else .unclear) = m ↔ _
  split
  · rename_i isP
    exact (and_iff_right isP).symm
  · rename_i other
    exact iff_of_false (Ne.symm clear) fun both => other both.1

/-- Settles O28: the completed pick field by field. -/
theorem completionGradesAndLabels : Obligations.CompletionGradesAndLabels := by
  intro s gap e
  refine ⟨e.complete s.onset.phas (s.lminOf e) s.onset.nextPick gap, rfl, ?_⟩
  intro set lmin y
  have lminOf : s.lminOf e = lmin := by
    unfold State.lminOf
    simp only [lmin]
    cases e.source <;> rfl
  have moved : e.motion = y := by
    cases extremum : e.work.extremum <;> simp [Entry.motion, y, extremum]
  have grades := gradeOf_spec set (e.complete s.onset.phas (s.lminOf e) s.onset.nextPick gap).snr16
  obtain ⟨isP, isS⟩ := classify_spec set (hvOf e.hSum e.vSum)
  refine ⟨rfl, rfl, rfl, rfl, rfl, rfl, rfl, rfl, rfl, rfl, rfl, rfl, rfl, rfl, rfl, fun k peak => ?_, grades.1, grades.2.1, grades.2.2.1,
    grades.2.2.2, rfl, isP, isS, rfl, ?_, ?_, ?_⟩
  · rw [lminOf, Entry.complete, peak]
    exact ⟨rfl, rfl, rfl, rfl⟩
  · simp only [Entry.complete]
    cases e.label <;> simp
  · exact (e.complete_polarity (by decide)).trans (and_congr_right fun _ => by rw [polarityOf_up, moved])
  · exact (e.complete_polarity (by decide)).trans (and_congr_right fun _ => by rw [polarityOf_down, moved])

/-! ## Signals (R75, R76) -/

/-- Numbers do not wrap as long as they reach no more than the last one. -/
theorem numberAfter_eq {n k : Nat} (h : n + k ≤ 65535) : numberAfter n k = n + k := by
  induction k generalizing n with
  | zero => rfl
  | succ k ih =>
    have next : nextNumber n = n + 1 := if_pos (by omega)
    rw [numberAfter, next, ih (by omega)]
    omega

/-- Pick `i` of several is the completion of entry `i`. -/
theorem picksFrom_get {s : State} {gap : Option Cause} {n : Nat} {es : List Entry} {i : Nat} {e : Entry} (h : es[i]? = some e) :
    (picksFrom s gap n es)[i]? = some (e.complete s.onset.phas (s.lminOf e) (numberAfter n i) gap) := by
  induction es generalizing n i with
  | nil => cases h
  | cons x es ih =>
    cases i with
    | zero =>
      cases h
      rfl
    | succ i => exact ih h

/-- The boundary does not depend on what completes. -/
theorem State.completeAll_setBoundary (s : State) (gap : Option Cause) (c : Cause) (es : List Entry) :
    (s.completeAll gap es).setBoundary c = (s.setBoundary c).completeAll gap es := by
  unfold State.completeAll
  induction es generalizing s with
  | nil => rfl
  | cons e es ih => exact ih (s.completeOne gap e)

theorem State.onsetDiscontinuity_of {s : State} {c : Cause} (ready : s.onset.feed.signalReady = some c) (other : c ≠ .flush) :
    s.onsetDiscontinuity = (({ s with onset := { s.onset with
      feed := s.onset.feed.takeSignal, table := [] } }).completeAll (some c) s.onset.table).setBoundary c := by
  unfold State.onsetDiscontinuity
  rw [ready]
  dsimp only
  rw [if_neg other]

theorem State.onsetFlush_of {s : State} (ready : s.onset.feed.signalReady = some .flush) :
    s.onsetFlush = (({ s with onset := { s.onset with feed := s.onset.feed.takeSignal, table := [] } }).countFlushed
      s.onset.table.length).setBoundary .flush := by
  unfold State.onsetFlush
  rw [ready]

/-- Settles O29: the completion of the whole table, its picks one by one, and the discarding. -/
theorem signalSettlesThePendingTable : Obligations.SignalSettlesThePendingTable := by
  refine ⟨fun s gap e es => ⟨rfl, rfl⟩, ?_⟩
  intro s c high ready o
  have completed (other : c ≠ .flush) :
      exec .onsetDiscontinuity s = .next (({ s with onset := o } : State).completeAll (some c) s.onset.table) := by
    change Host.Outcome.next (s.live _) = _
    rw [State.live_high high, State.onsetDiscontinuity_of ready other, State.completeAll_setBoundary]
    rfl
  refine ⟨completed, fun other => ?_, fun isFlush => ?_⟩
  · refine ⟨numberAfter s.onset.nextPick s.onset.table.length,
      picksFrom { s with onset := o } (some c) s.onset.nextPick s.onset.table, ?_, ?_, fun few => numberAfter_eq few, ?_⟩
    · rw [completed other, State.completeAll_eq]
    · rw [picksFrom_length]
    · intro i p e pick entry
      rw [picksFrom_get entry] at pick
      cases pick
      exact ⟨rfl, rfl, rfl, rfl, rfl, fun few => numberAfter_eq few⟩
  · subst isFlush
    change Host.Outcome.next (s.live _) = _
    rw [State.live_high high, State.onsetFlush_of ready]
    rfl

/-! ## A triple (R59, R66) -/

/-- Elements kept and changed are those a filter with a value keeps. -/
theorem map_filter_eq {α β : Type} (p : α → Bool) (f : α → β) (l : List α) :
    (l.filter p).map f = l.filterMap fun a => if p a then some (f a) else none := by
  rw [← List.filterMap_eq_map, List.filterMap_filter]
  rfl

section Triple

variable {t : Triple} {takes : Entry → Bool}

/-- An entry that takes a triple is done when its window is then full and it is confirmed (R66). -/
theorem Entry.measure_isDone (e : Entry) (t : Triple) :
    (e.measure t).isDone = (e.measured + 1 == e.measureLen && e.confirmed) := by
  unfold Entry.isDone
  rw [beq_eq_decide]
  rfl

theorem stays_of_measuring (e : Entry) : stays (fun e => if takes e then some (e.measure t) else none) e =
    if !(takes e && e.measured + 1 == e.measureLen && e.confirmed) then some (if takes e then e.measure t else e) else none := by
  unfold stays
  dsimp only
  cases taken : takes e with
  | false => rfl
  | true =>
    simp only [if_true, Bool.true_and]
    rw [Entry.measure_isDone]
    cases e.measured + 1 == e.measureLen && e.confirmed <;> rfl

theorem completes_of_measuring (e : Entry) : completes (fun e => if takes e then some (e.measure t) else none) e =
    if takes e && e.measured + 1 == e.measureLen && e.confirmed then some (e.measure t) else none := by
  unfold completes
  dsimp only
  cases taken : takes e with
  | false => rfl
  | true =>
    simp only [if_true, Bool.true_and]
    rw [Entry.measure_isDone]

end Triple

/-- Settles O26: the sweep of the table by what each entry does with the triple. -/
theorem onsetTripleMeasuresItsEntries : Obligations.OnsetTripleMeasuresItsEntries := by
  intro s high ready t takes done
  have touch : (fun e : Entry => if e.nextIdx = s.onset.feed.taken && e.accepts t then some (e.measure t) else none) =
      fun e => if takes e then some (e.measure t) else none := by
    funext e
    have same : (decide (e.nextIdx = s.onset.feed.taken) && e.accepts t) = takes e := by
      rw [Bool.eq_iff_iff, Bool.and_eq_true, decide_eq_true_iff]
      simp [takes, Entry.nextIdx, Entry.accepts, and_assoc]
    rw [same]
  have treated : s.onsetTriple = ({ s with onset := { s.onset with feed := s.onset.feed.takeTriple } } : State).sweepTable
      fun e => if takes e then some (e.measure t) else none := by
    unfold State.onsetTriple
    rw [if_pos ready, ← touch]
  change Host.Outcome.next (s.live _) = _
  rw [State.live_high high, treated, State.sweepTable_eq, funext stays_of_measuring, funext completes_of_measuring,
    ← map_filter_eq, ← map_filter_eq]
  rfl

end Sys2Proof.Machine
end

section
/-! The creation of entries (R51 to R54, R57 to R60, R71, R72, R77). -/

namespace Sys2Proof.Machine

/-! ## The measurement at creation -/

/-- The entry has measured `n` triples from its next one on. -/
def Entry.measureRun (r : Ring) (n : Nat) (e : Entry) : Entry :=
  (List.range n).foldl (fun x k => x.measure (r.read (e.nextIdx + k))) e

theorem Entry.nextIdx_measure (e : Entry) (t : Triple) : (e.measure t).nextIdx = e.nextIdx + 1 := by
  unfold Entry.nextIdx
  exact (Nat.add_assoc _ _ _).symm

theorem Entry.measureRun_succ (r : Ring) (n : Nat) (e : Entry) :
    e.measureRun r (n + 1) = (e.measure (r.read e.nextIdx)).measureRun r n := by
  unfold Entry.measureRun
  rw [List.range_succ_eq_map, List.foldl_cons, List.foldl_map, Entry.nextIdx_measure]
  simp only [Nat.add_zero, Nat.succ_eq_add_one, Nat.add_assoc, Nat.add_comm 1]

theorem Entry.measureRun_measured (r : Ring) (n : Nat) (e : Entry) : (e.measureRun r n).measured = e.measured + n := by
  induction n generalizing e with
  | zero => rfl
  | succ n ih =>
    rw [Entry.measureRun_succ, ih]
    change e.measured + 1 + n = _
    omega

/-- What measuring leaves of an entry: all but its results. -/
def Entry.sameRequest (e m : Entry) : Prop := m = { e with
  measured := m.measured, peak := m.peak, vSum := m.vSum, hSum := m.hSum, work := m.work, clipped := m.clipped, filled := m.filled }

theorem Entry.measureRun_sameRequest (r : Ring) (n : Nat) (e : Entry) : e.sameRequest (e.measureRun r n) := by
  induction n generalizing e with
  | zero => rfl
  | succ n ih =>
    rw [Entry.measureRun_succ]
    exact ih (e.measure (r.read e.nextIdx))

theorem Entry.measureRun_vSum (r : Ring) (n : Nat) (e : Entry) : (e.measureRun r n).vSum =
    e.vSum + ((List.range n).map fun k => (r.read (e.nextIdx + k)).cond.z.natAbs ^ 2).sum := by
  unfold Entry.measureRun
  induction n with
  | zero => rfl
  | succ n ih =>
    rw [List.range_succ, List.foldl_append, List.map_append, List.sum_append, ← Nat.add_assoc, ← ih]
    rfl

/-- The measurement at creation stops at a full window, at the limit, or before a DISC triple of another run (R59). -/
theorem measureHeld_run (r : Ring) (limit n : Nat) (e : Entry) (room : e.measured + n = e.measureLen) :
    ∃ k ≤ n, measureHeld r limit n e = e.measureRun r k ∧
      (∀ j < k, e.nextIdx + j < limit ∧ (e.measured + j = 0 ∨ (r.read (e.nextIdx + j)).disc = false)) ∧
      (k = n ∨ limit ≤ e.nextIdx + k ∨ (e.measured + k ≠ 0 ∧ (r.read (e.nextIdx + k)).disc = true)) := by
  induction n generalizing e with
  | zero => exact ⟨0, le_refl _, rfl, fun j less => absurd less (Nat.not_lt_zero j), Or.inl rfl⟩
  | succ n ih =>
    have fits : e.accepts (r.read e.nextIdx) = true ↔ e.measured = 0 ∨ (r.read e.nextIdx).disc = false := by
      unfold Entry.accepts
      rw [Bool.and_eq_true, decide_eq_true_iff, Bool.or_eq_true, beq_iff_eq, Bool.not_eq_true',
        and_iff_right (by omega : e.measured < e.measureLen)]
    unfold measureHeld
    dsimp only
    by_cases go : (decide (e.nextIdx < limit) && e.accepts (r.read e.nextIdx)) = true
    · rw [if_pos go]
      rw [Bool.and_eq_true, decide_eq_true_iff, fits] at go
      obtain ⟨k, le, same, each, stop⟩ := ih (e.measure (r.read e.nextIdx)) (by
        change e.measured + 1 + n = e.measureLen
        omega)
      rw [Entry.nextIdx_measure] at each stop
      refine ⟨k + 1, Nat.succ_le_succ le, by rw [same, Entry.measureRun_succ], fun j less => ?_, ?_⟩
      · cases j with
        | zero => exact go
        | succ j =>
          have later := each j (Nat.lt_of_succ_lt_succ less)
          rw [Nat.add_assoc, Nat.add_comm 1 j] at later
          exact ⟨later.1, Or.inr (later.2.resolve_left (by change e.measured + 1 + j ≠ 0; omega))⟩
      · rw [Nat.add_assoc, Nat.add_comm 1 k] at stop
        exact stop.imp (congrArg (· + 1)) (Or.imp_right fun last => ⟨by omega, last.2⟩)
    · rw [if_neg go]
      rw [Bool.and_eq_true, decide_eq_true_iff, fits] at go
      refine ⟨0, Nat.zero_le _, rfl, fun j less => absurd less (Nat.not_lt_zero j), Or.inr ?_⟩
      rw [Nat.add_zero, Nat.add_zero]
      by_cases within : e.nextIdx < limit
      · right
        refine ⟨fun first => go ⟨within, Or.inl first⟩, ?_⟩
        rw [← Bool.not_eq_false]
        exact fun later => go ⟨within, Or.inr later⟩
      · exact Or.inl (Nat.not_lt.mp within)

/-- The same for an entry that has measured nothing. -/
theorem measureHeld_new (r : Ring) (limit : Nat) (e : Entry) (new : e.measured = 0) :
    ∃ m, measureHeld r limit e.measureLen e = m ∧ m = e.measureRun r m.measured ∧ m.measured ≤ e.measureLen ∧
      (∀ k < m.measured, e.onset.idx + k < limit ∧ (k = 0 ∨ (r.read (e.onset.idx + k)).disc = false)) ∧
      (m.measured = e.measureLen ∨ limit ≤ e.onset.idx + m.measured ∨
        (m.measured ≠ 0 ∧ (r.read (e.onset.idx + m.measured)).disc = true)) := by
  obtain ⟨k, le, same, each, stop⟩ := measureHeld_run r limit e.measureLen e (by rw [new, Nat.zero_add])
  have count : (e.measureRun r k).measured = k := by rw [Entry.measureRun_measured, new, Nat.zero_add]
  have start : e.nextIdx = e.onset.idx := by rw [Entry.nextIdx, new, Nat.add_zero]
  rw [new, start] at each stop
  simp only [Nat.zero_add] at each stop
  exact ⟨_, same, by rw [count], by rw [count]; exact le, by rw [count]; exact each, by rw [count]; exact stop⟩

/-! ## Detector entries -/

/-- The oldest triple number that the last onset allows: for a SECONDARY, the one after the last onset of its episode (R57). -/
def State.searchFloor (s : State) (d : Det) (kind : PickKind) (episode : Nat) : Nat :=
  match kind, s.onset.last d with
  | .secondary, some l => if l.episode = episode then l.onset.idx + 1 else 0
  | _, _ => 0

theorem State.detectorEntry_eq (s : State) (d : Det) (kind : PickKind) (episode reference : Nat) (trigger : Ref) (confirmed late : Bool)
    {found : Ref × Bool} (search : onsetSearch s.ring d (threshold reference s.onset.onst.factor) s.onset.onst
      (s.searchFloor d kind episode) trigger = found) :
    s.detectorEntry d kind episode trigger reference confirmed late =
      measureHeld s.ring (s.measureLimit late) s.onset.onst.measureLen (newEntry kind (.detector d) (some ⟨d, episode⟩) trigger
        found.1 reference (threshold reference s.onset.onst.factor) s.onset.onst.measureLen confirmed found.2) := by
  subst search
  rfl

theorem measureHeld_sameRequest (r : Ring) (limit n : Nat) (e : Entry) : e.sameRequest (measureHeld r limit n e) := by
  induction n generalizing e with
  | zero => rfl
  | succ n ih =>
    unfold measureHeld
    dsimp only
    split
    · exact ih (e.measure (r.read e.nextIdx))
    · rfl

theorem State.detectorEntry_inverted (s : State) (d : Det) (kind : PickKind) (episode reference : Nat) (trigger : Ref)
    (confirmed late : Bool) : (s.detectorEntry d kind episode trigger reference confirmed late).inverted = false := by
  rw [State.detectorEntry_eq s d kind episode reference trigger confirmed late rfl]
  exact congrArg Entry.inverted (measureHeld_sameRequest ..)

/-- Settles O21: the request's fields, unchanged by the measurement, which is a run of triples from the onset on. -/
theorem detectorEntryCarriesItsRequest : Obligations.DetectorEntryCarriesItsRequest := by
  intro s d kind episode reference trigger confirmed late e T floor
  have floorEq : s.searchFloor d kind episode = floor := by
    cases kind <;> cases last : s.onset.last d <;> simp [State.searchFloor, floor, last]
  obtain ⟨found, search⟩ : ∃ found, onsetSearch s.ring d T s.onset.onst floor trigger = found := ⟨_, rfl⟩
  obtain ⟨m, made, run, le, each, stop⟩ := measureHeld_new s.ring (s.measureLimit late) (newEntry kind (.detector d) (some ⟨d, episode⟩)
    trigger found.1 reference T s.onset.onst.measureLen confirmed found.2) rfl
  have entry : e = m := by
    rw [← made]
    refine s.detectorEntry_eq d kind episode reference trigger confirmed late ?_
    rw [floorEq]
    exact search
  have same := Entry.measureRun_sameRequest s.ring m.measured (newEntry kind (.detector d) (some ⟨d, episode⟩)
    trigger found.1 reference T s.onset.onst.measureLen confirmed found.2)
  rw [← run] at same
  have onset : m.onset = found.1 := congrArg Entry.onset same
  have edge : m.edge = found.2 := congrArg Entry.edge same
  rw [entry, search, onset, edge]
  refine ⟨congrArg Entry.kind same, congrArg Entry.source same, congrArg Entry.episode same, congrArg Entry.trigger same,
    congrArg Entry.reference same, congrArg Entry.threshold same, congrArg Entry.measureLen same, congrArg Entry.confirmed same, rfl,
    congrArg Entry.long same, congrArg Entry.inverted same, congrArg Entry.confirmedBy same, congrArg Entry.score same,
    congrArg Entry.coincident same, congrArg Entry.label same, ?_, each, ?_, ?_, run⟩
  · rw [show m.measureLen = s.onset.onst.measureLen from congrArg Entry.measureLen same]
    exact le
  · rw [show m.measureLen = s.onset.onst.measureLen from congrArg Entry.measureLen same]
    exact stop
  · have sums := Entry.measureRun_vSum s.ring m.measured (newEntry kind (.detector d) (some ⟨d, episode⟩)
      trigger found.1 reference T s.onset.onst.measureLen confirmed found.2)
    rw [← run] at sums
    exact sums.trans (Nat.zero_add _)

end Sys2Proof.Machine
end

section
/-! The create requests (R52, R53, R66, R71, R72, R77). -/

namespace Sys2Proof.Machine

/-! ## Who is late, who waits -/

theorem OnsetUnit.lateCause_iff (o : OnsetUnit) (trigger : Ref) (c : Cause) :
    o.lateCause trigger = some c ↔ ∃ b, o.boundary = some b ∧ trigger.idx < b.count ∧ b.cause = c := by
  unfold OnsetUnit.lateCause
  cases o.boundary with
  | none => simp
  | some b => simp

theorem Feed.holdsBack_of_after {f : Feed} {g : Signal} {idx : Nat} (head : f.signals.head? = some g) (after : g.after ≤ idx) :
    f.holdsBack idx = true := (f.holdsBack_iff idx).mpr ⟨g, head, after⟩

theorem Feed.not_holdsBack {f : Feed} {idx : Nat} (before : ∀ g, f.signals.head? = some g → idx < g.after) : ¬f.holdsBack idx = true := by
  rw [Feed.holdsBack_iff]
  rintro ⟨g, head, after⟩
  exact absurd after (Nat.not_le.mpr (before g head))

/-- A step that changes nothing, taken or not. -/
theorem State.live_same {s : State} {f : State → State} (same : f s = s) : s.live f = s := by
  unfold State.live
  split
  · rfl
  · exact same

/-! ## The four ways of a detector's request -/

section Detector

variable {s : State} {d : Det} {kind : PickKind} {episode reference : Nat} {trigger : Ref} {confirmed : Bool}
  {rest : List DetRequest} {c : Instr}

/-- The command of the request at the head of its detector's channel. -/
def State.asksEntry (s : State) (c : Instr) (d : Det) (kind : PickKind) (episode : Nat) (trigger : Ref) (reference : Nat)
    (confirmed : Bool) (rest : List DetRequest) : Prop :=
  (c = .createPrimary d ∧ kind = .primary ∧ (s.det d).requests = .createPrimary episode trigger reference confirmed :: rest) ∨
    (c = .createSecondary d ∧ kind = .secondary ∧ (s.det d).requests = .createSecondary episode trigger reference confirmed :: rest)

theorem State.takePrimary_of_head (head : (s.det d).requests = .createPrimary episode trigger reference confirmed :: rest) :
    s.takePrimary d = if s.onset.feed.holdsBack trigger.idx then s
      else (s.popRequest d).createDetectorEntry d .primary episode trigger reference confirmed := by
  unfold State.takePrimary
  rw [head]

theorem State.takeSecondary_of_head (head : (s.det d).requests = .createSecondary episode trigger reference confirmed :: rest) :
    s.takeSecondary d = if s.onset.feed.holdsBack trigger.idx then s
      else (s.popRequest d).createDetectorEntry d .secondary episode trigger reference confirmed := by
  unfold State.takeSecondary
  rw [head]

theorem exec_createEntry (high : s.resetLow = false) (asks : s.asksEntry c d kind episode trigger reference confirmed rest)
    (before : ∀ g, s.onset.feed.signals.head? = some g → trigger.idx < g.after) :
    exec c s = .next ((s.setDet d { s.det d with requests := rest }).createDetectorEntry d kind episode trigger reference confirmed) := by
  rcases asks with ⟨rfl, rfl, head⟩ | ⟨rfl, rfl, head⟩
  · change Host.Outcome.next (s.live _) = _
    rw [State.live_high high, State.takePrimary_of_head head, if_neg (Feed.not_holdsBack before), State.popRequest_of_head head]
  · change Host.Outcome.next (s.live _) = _
    rw [State.live_high high, State.takeSecondary_of_head head, if_neg (Feed.not_holdsBack before), State.popRequest_of_head head]

theorem State.createDetectorEntry_flushed (late : s.onset.lateCause trigger = some .flush) :
    s.createDetectorEntry d kind episode trigger reference confirmed = s.countFlushed 1 := by
  unfold State.createDetectorEntry
  rw [late]
  rfl

theorem State.createDetectorEntry_overrun (other : s.onset.lateCause trigger ≠ some .flush) (full : 16 ≤ s.onset.table.length) :
    s.createDetectorEntry d kind episode trigger reference confirmed = s.overrun := by
  unfold State.createDetectorEntry
  dsimp only
  rw [if_neg other, if_pos (by exact full)]

theorem State.createDetectorEntry_late {cause : Cause} (late : s.onset.lateCause trigger = some cause) (other : cause ≠ .flush)
    (room : s.onset.table.length < 16) :
    s.createDetectorEntry d kind episode trigger reference confirmed =
      ({ s with onset := s.onset.setLast d ⟨episode, (s.detectorEntry d kind episode trigger reference confirmed true).onset⟩ } :
        State).completeOne (some cause) (s.detectorEntry d kind episode trigger reference confirmed true) := by
  unfold State.createDetectorEntry
  rw [late]
  dsimp only
  rw [if_neg (by simpa using other), if_neg (Nat.not_le.mpr room)]
  rfl

theorem State.createDetectorEntry_new {e : Entry} {u : State} (present : s.onset.lateCause trigger = none)
    (room : s.onset.table.length < 16) (entry : e = s.detectorEntry d kind episode trigger reference confirmed false)
    (noted : u = { s with onset := s.onset.setLast d ⟨episode, e.onset⟩ }) :
    s.createDetectorEntry d kind episode trigger reference confirmed = (u.detectorFirst e).1.placeEntry (u.detectorFirst e).2 := by
  subst noted entry
  unfold State.createDetectorEntry
  rw [present]
  dsimp only
  rw [if_neg (by decide), if_neg (Nat.not_le.mpr room)]
  rfl

end Detector

/-- A measured and confirmed entry completes at once, any other goes at the end of the table (R51, R66). -/
theorem State.placeEntry_eq (s : State) (e : Entry) : s.placeEntry e =
    if e.measured = e.measureLen ∧ e.confirmed = true then s.completeOne none e
    else { s with onset := { s.onset with table := s.onset.table ++ [e] } } := by
  unfold State.placeEntry Entry.isDone
  simp only [Bool.and_eq_true, decide_eq_true_iff]

/-- Settles O22: the detector's request in the present run, merged or alone. -/
theorem createRequestMakesAnEntry : Obligations.CreateRequestMakesAnEntry := by
  intro s d c kind episode reference trigger confirmed rest high asks present room before s1 e s2 placed
  have onset : s1.onset = s.onset := State.setDet_onset ..
  have counters : s1.counters = s.counters := State.setDet_counters ..
  have table : s2.onset.table = s.onset.table := OnsetUnit.setLast_table ..
  have noted : s2 = { s1 with onset := s1.onset.setLast d ⟨episode, e.onset⟩ } := by
    rw [onset]
  have made : exec c s = .next ((s2.detectorFirst e).1.placeEntry (s2.detectorFirst e).2) := by
    rw [exec_createEntry high asks before]
    exact congrArg Host.Outcome.next (State.createDetectorEntry_new (by rw [onset]; exact present) (by rw [onset]; exact room) rfl noted)
  rw [made]
  refine ⟨fun alone => ?_, fun i g n found entry slot => ?_⟩
  · have first : s2.detectorFirst e = (s2, { e with coincident := s2.coincidentPick PickKind.ofSignature e.onset.time }) := by
      unfold State.detectorFirst
      rw [alone]
    rw [first, State.placeEntry_eq]
  · have inverted : e.inverted = false := State.detectorEntry_inverted ..
    have first : s2.detectorFirst e = ({ s2 with
        onset := { s2.onset with table := s.onset.table.eraseIdx i }
        counters := { s.counters with picksMerged := min 4294967295 (s.counters.picksMerged + 1) } },
        { e with confirmedBy := some n, score := g.score, inverted := g.inverted }) := by
      unfold State.detectorFirst
      rw [found, table]
      dsimp only
      rw [entry]
      dsimp only
      rw [slot, inverted, show s2.counters = s.counters from counters]
      rfl
    rw [first, State.placeEntry_eq]

/-! ## The ways of a signature's request -/

section Signature

variable {s : State} {q : SigRequest} {rest : List SigRequest}

theorem State.takeSignature_of_head (head : s.bank.requests = q :: rest) : s.takeSignature =
    if s.onset.feed.holdsBack q.trigger.idx then s
    else ({ s with bank := { s.bank with requests := rest } } : State).createSignatureEntry q := by
  unfold State.takeSignature
  rw [head]

theorem exec_createSignature (high : s.resetLow = false) (head : s.bank.requests = q :: rest)
    (before : ∀ g, s.onset.feed.signals.head? = some g → q.trigger.idx < g.after) :
    exec .createSignature s = .next (({ s with bank := { s.bank with requests := rest } } : State).createSignatureEntry q) := by
  change Host.Outcome.next (s.live _) = _
  rw [State.live_high high, State.takeSignature_of_head head, if_neg (Feed.not_holdsBack before)]

theorem State.createSignatureEntry_flushed (late : s.onset.lateCause q.trigger = some .flush) :
    s.createSignatureEntry q = s.countFlushed 1 := by
  unfold State.createSignatureEntry
  rw [late]
  rfl

theorem State.createSignatureEntry_overrun (other : s.onset.lateCause q.trigger ≠ some .flush) (full : 16 ≤ s.onset.table.length) :
    s.createSignatureEntry q = s.overrun := by
  unfold State.createSignatureEntry
  dsimp only
  rw [if_neg other, if_pos (by exact full)]

theorem State.createSignatureEntry_late {cause : Cause} (late : s.onset.lateCause q.trigger = some cause) (other : cause ≠ .flush)
    (room : s.onset.table.length < 16) : s.createSignatureEntry q = s.completeOne (some cause) (s.signatureEntry q true) := by
  unfold State.createSignatureEntry
  rw [late]
  dsimp only
  rw [if_neg (by simpa using other), if_neg (Nat.not_le.mpr room)]

/-- In the present run, a match is merged into the nearest coinciding detector entry (R71). -/
theorem State.createSignatureEntry_merged {i : Nat} (present : s.onset.lateCause q.trigger = none) (room : s.onset.table.length < 16)
    (found : s.coincidentEntry PickKind.ofDetector q.onset.time = some i) : s.createSignatureEntry q = { s with
      onset := { s.onset with table := s.onset.table.modify i fun e => e.mergeMatch q }
      counters := { s.counters with picksMerged := ctr s.counters.picksMerged 1 } } := by
  unfold State.createSignatureEntry
  rw [present, found]
  dsimp only
  rw [if_neg (by decide), if_neg (Nat.not_le.mpr room)]

/-- Without one, it makes its own (R52, R58). -/
theorem State.createSignatureEntry_alone (present : s.onset.lateCause q.trigger = none) (room : s.onset.table.length < 16)
    (none : s.coincidentEntry PickKind.ofDetector q.onset.time = .none) : s.createSignatureEntry q =
      s.placeEntry { s.signatureEntry q false with coincident := s.coincidentPick PickKind.ofDetector q.onset.time } := by
  unfold State.createSignatureEntry
  rw [present, none]
  dsimp only
  rw [if_neg (by decide), if_neg (Nat.not_le.mpr room)]

end Signature

/-- The match of a request changes an entry that no slot has confirmed yet (R71). -/
theorem Entry.mergeMatch_eq (e : Entry) (q : SigRequest) : e.mergeMatch q = if e.confirmedBy = none then
    { e with confirmedBy := some q.slot, score := some q.score, inverted := e.inverted || q.inverted } else e := by
  unfold Entry.mergeMatch
  cases e.confirmedBy <;> rfl

/-- A SIGNATURE entry before any measurement (R52, R58). -/
def State.requestedEntry (s : State) (q : SigRequest) : Entry where
  kind := .signature
  source := .slot q.slot
  episode := none
  trigger := q.trigger
  onset := q.onset
  reference := s.detV.long
  threshold := s.detV.long * s.onset.onst.factor / 16
  measureLen := s.onset.onst.measureLen
  measured := 0
  peak := none
  vSum := 0
  hSum := 0
  work := ⟨0, 0, none⟩
  clipped := false
  filled := false
  confirmed := true
  edge := false
  long := false
  inverted := q.inverted
  confirmedBy := none
  score := some q.score
  coincident := none
  label := some q.label

theorem State.signatureEntry_eq (s : State) (q : SigRequest) (late : Bool) : s.signatureEntry q late =
    measureHeld s.ring (s.measureLimit late) s.onset.onst.measureLen (s.requestedEntry q) := rfl

theorem State.signatureEntry_confirmed (s : State) (q : SigRequest) (late : Bool) : (s.signatureEntry q late).confirmed = true := by
  rw [State.signatureEntry_eq]
  exact congrArg Entry.confirmed (measureHeld_sameRequest ..)

/-- Settles O23: the match merged or alone, and its entry as a run of measured triples. -/
theorem signatureRequestMergesOrMakesAnEntry : Obligations.SignatureRequestMergesOrMakesAnEntry := by
  constructor
  · intro s q rest high head present room before s1
    rw [exec_createSignature high head before]
    refine ⟨fun i found => ?_, fun alone => ?_⟩
    · rw [State.createSignatureEntry_merged (s := s1) present room found, show (fun e : Entry => e.mergeMatch q) = _ from funext fun e => Entry.mergeMatch_eq e q]
      rfl
    · intro e
      have confirmed : e.confirmed = true := State.signatureEntry_confirmed ..
      rw [State.createSignatureEntry_alone (s := s1) present room alone, State.placeEntry_eq]
      exact congrArg Host.Outcome.next (if_congr (and_iff_left confirmed) rfl rfl)
  · intro s q late M e limit n
    obtain ⟨m, made, run, le, each, stop⟩ := measureHeld_new s.ring limit (s.requestedEntry q) rfl
    have entry : e = m := made
    have count : n = m.measured := congrArg Entry.measured entry
    rw [count]
    exact ⟨entry.trans run, le, each, stop⟩

/-- Settles O24: who is late or waits, and the three fates of a request that makes no pending entry. -/
theorem lateAndOverrunRequests : Obligations.LateAndOverrunRequests := by
  refine ⟨fun s trigger c => ⟨s.onset.lateCause_iff trigger c, fun b boundary => ?_, rfl⟩,
    fun s g head => ⟨fun d episode reference trigger confirmed rest after => ⟨fun front => ?_, fun front => ?_⟩,
      fun q rest front after => ?_⟩, ?_⟩
  · unfold State.measureLimit
    rw [boundary]
    rfl
  · exact congrArg Host.Outcome.next (State.live_same (by rw [State.takePrimary_of_head front, if_pos (Feed.holdsBack_of_after head after)]))
  · exact congrArg Host.Outcome.next (State.live_same (by rw [State.takeSecondary_of_head front, if_pos (Feed.holdsBack_of_after head after)]))
  · exact congrArg Host.Outcome.next (State.live_same (by rw [State.takeSignature_of_head front, if_pos (Feed.holdsBack_of_after head after)]))
  · intro s high flushed overrun
    refine ⟨?_, ?_⟩
    · intro d kind episode reference trigger confirmed rest c asks before s1
      have onset : s1.onset = s.onset := State.setDet_onset ..
      have counters : s1.counters = s.counters := State.setDet_counters ..
      rw [exec_createEntry high asks before, ← onset]
      refine ⟨fun late => ?_, fun other full => ?_, fun cause late other room => ?_⟩
      · rw [State.createDetectorEntry_flushed late, State.countFlushed, counters]
        rfl
      · rw [State.createDetectorEntry_overrun other full, State.overrun, counters]
        rfl
      · intro e
        rw [State.createDetectorEntry_late late other room]
    · intro q rest head before s1
      rw [exec_createSignature high head before]
      refine ⟨fun late => ?_, fun other full => ?_, fun cause late other room => ?_⟩
      · rw [State.createSignatureEntry_flushed (by exact late)]
        rfl
      · rw [State.createSignatureEntry_overrun (by exact other) (by exact full)]
        rfl
      · rw [State.createSignatureEntry_late (by exact late) other (by exact room)]

end Sys2Proof.Machine
end

section
/-! The onset search (R54 to R57). -/

namespace Sys2Proof.Machine

section Search

/-- Triple `i` is not FILLED and reaches the threshold (R54). -/
def Ring.reaches (r : Ring) (d : Det) (T i : Nat) : Prop := (r.read i).filled = false ∧ T ≤ (r.read i).energy d

variable {r : Ring} {d : Det} {T Q bound top : Nat}

/-- What a scan of triples `low` to `top` holds: no triple that reaches the threshold and a quiet run over all of them, or the oldest
that does, with the quiet run before it. -/
def scanned (r : Ring) (d : Det) (T top low : Nat) (cand : Option Ref) (quiet : Nat) : Prop :=
  match cand with
  | none => (∀ i, low ≤ i → i ≤ top → ¬r.reaches d T i) ∧ quiet + low = top + 1
  | some c => r.reaches d T c.idx ∧ c.idx ≤ top ∧ c.idx = low + quiet ∧ c.time = (r.read c.idx).time ∧
      ∀ i, low ≤ i → i < c.idx → ¬r.reaches d T i

/-- No `Q` consecutive triples from number `low` on stay below the threshold. -/
def lively (r : Ring) (d : Det) (T Q top low : Nat) : Prop :=
  ∀ j, low ≤ j → j + Q ≤ top + 1 → ∃ i, j ≤ i ∧ i < j + Q ∧ r.reaches d T i

/-- The triples from number `low` on carry no DISC and lie above the bound. -/
def clearFrom (r : Ring) (bound top low : Nat) : Prop := ∀ i, low ≤ i → i ≤ top → (r.read i).disc = false ∧ bound < i

theorem scanned_hit {idx : Nat} (le : idx ≤ top) (hit : r.reaches d T idx) :
    scanned r d T top idx (some ⟨idx, (r.read idx).time⟩) 0 :=
  ⟨hit, le, rfl, rfl, fun _ from_ before => absurd before (Nat.not_lt.mpr from_)⟩

theorem scanned_miss {idx quiet : Nat} {cand : Option Ref} (before : scanned r d T top (idx + 1) cand quiet)
    (miss : ¬r.reaches d T idx) : scanned r d T top idx cand (quiet + 1) := by
  have older {i : Nat} (low : idx ≤ i) : i = idx ∨ idx + 1 ≤ i := by omega
  cases cand with
  | none =>
    obtain ⟨below, run⟩ := before
    refine ⟨fun i low high => ?_, by omega⟩
    rcases older low with rfl | later
    · exact miss
    · exact below i later high
  | some c =>
    obtain ⟨hit, le, place, time, below⟩ := before
    refine ⟨hit, le, by omega, time, fun i low high => ?_⟩
    rcases older low with rfl | later
    · exact miss
    · exact below i later high

/-- A quiet run shorter than `Q` extends the lively stretch by its place. -/
theorem lively_extend {idx quiet : Nat} {cand : Option Ref} (before : lively r d T Q top (idx + 1))
    (now : scanned r d T top idx cand quiet) (short : quiet < Q) : lively r d T Q top idx := by
  intro j low high
  rcases (by omega : j = idx ∨ idx + 1 ≤ j) with rfl | later
  · cases cand with
    | none =>
      obtain ⟨-, run⟩ := now
      omega
    | some c =>
      obtain ⟨hit, -, place, -, -⟩ := now
      exact ⟨c.idx, by omega, by omega, hit⟩
  · exact before j later high

/-- What the scan answers, and where it stops: after a quiet run of `Q`, or at the bound or a DISC triple (R55, R56). -/
def stopsAt (r : Ring) (d : Det) (T Q bound top stop : Nat) (out : Option Ref × Bool) : Prop :=
  ∃ quiet, scanned r d T top stop out.1 quiet ∧ clearFrom r bound top (stop + 1) ∧ lively r d T Q top (stop + 1) ∧
    (out.2 = false → quiet = Q) ∧ (out.2 = true → quiet < Q ∧ (stop ≤ bound ∨ (r.read stop).disc = true))

theorem scan_succ {idx quiet : Nat} {cand : Option Ref} {hit : Bool} (n : Nat)
    (is : (!(r.read idx).filled && decide (T ≤ (r.read idx).energy d)) = hit) :
    scan r d T Q bound (n + 1) idx cand quiet =
      if !hit && decide (Q ≤ if hit then 0 else quiet + 1) then (if hit then some ⟨idx, (r.read idx).time⟩ else cand, false)
      else if (r.read idx).disc || decide (idx ≤ bound) then (if hit then some ⟨idx, (r.read idx).time⟩ else cand, true)
      else scan r d T Q bound n (idx - 1) (if hit then some ⟨idx, (r.read idx).time⟩ else cand) (if hit then 0 else quiet + 1) := by
  subst is
  rfl

/-- One triple of the scan: what it then holds, and whether it goes on. -/
theorem scan_step (positive : 1 ≤ Q) {idx quiet : Nat} {cand : Option Ref} (le : idx ≤ top)
    (before : scanned r d T top (idx + 1) cand quiet) (short : quiet < Q) (n : Nat) :
    ∃ c q, scanned r d T top idx c q ∧ q ≤ Q ∧ scan r d T Q bound (n + 1) idx cand quiet =
      if Q ≤ q then (c, false)
      else if (r.read idx).disc = true ∨ idx ≤ bound then (c, true) else scan r d T Q bound n (idx - 1) c q := by
  have isHit : (!(r.read idx).filled && decide (T ≤ (r.read idx).energy d)) = true ↔ r.reaches d T idx := by
    rw [Bool.and_eq_true, Bool.not_eq_true', decide_eq_true_iff, Ring.reaches]
  by_cases hit : r.reaches d T idx
  · refine ⟨some ⟨idx, (r.read idx).time⟩, 0, scanned_hit le hit, Nat.zero_le Q, ?_⟩
    rw [scan_succ n (isHit.mpr hit), if_neg (Nat.not_le.mpr positive)]
    simp
  · refine ⟨cand, quiet + 1, scanned_miss before hit, short, ?_⟩
    rw [scan_succ n (Bool.eq_false_iff.mpr fun yes => hit (isHit.mp yes))]
    simp

theorem scan_stops (positive : 1 ≤ Q) (n idx : Nat) (cand : Option Ref) (quiet : Nat) (fuel : idx ≤ bound + n) (le : idx ≤ top)
    (before : scanned r d T top (idx + 1) cand quiet) (short : quiet < Q) (clear : clearFrom r bound top (idx + 1))
    (live : lively r d T Q top (idx + 1)) :
    ∃ stop ≤ idx, stopsAt r d T Q bound top stop (scan r d T Q bound (n + 1) idx cand quiet) := by
  induction n generalizing idx cand quiet with
  | zero =>
    obtain ⟨c, q, now, within, step⟩ := scan_step (bound := bound) positive le before short 0
    refine ⟨idx, le_refl _, q, ?_⟩
    rw [step, if_pos (Or.inr fuel : (r.read idx).disc = true ∨ idx ≤ bound)]
    split
    · rename_i full
      exact ⟨now, clear, live, fun _ => le_antisymm within full, (fun other => nomatch other)⟩
    · rename_i more
      exact ⟨now, clear, live, (fun other => nomatch other), fun _ => ⟨Nat.not_le.mp more, Or.inl fuel⟩⟩
  | succ n ih =>
    obtain ⟨c, q, now, within, step⟩ := scan_step (bound := bound) positive le before short (n + 1)
    rw [step]
    split
    · rename_i full
      exact ⟨idx, le_refl _, q, now, clear, live, fun _ => le_antisymm within full, (fun other => nomatch other)⟩
    · rename_i more
      split
      · rename_i ended
        exact ⟨idx, le_refl _, q, now, clear, live, (fun other => nomatch other), fun _ => ⟨Nat.not_le.mp more, ended.symm⟩⟩
      · rename_i on
        rw [not_or, Nat.not_le, Bool.not_eq_true] at on
        obtain ⟨plain, above⟩ := on
        have prior : idx - 1 + 1 = idx := by omega
        obtain ⟨stop, low, stopped⟩ := ih (idx - 1) c q (by omega) (by omega) (by rw [prior]; exact now) (Nat.not_le.mp more)
          (by
            rw [prior]
            intro i from_ high
            rcases (by omega : i = idx ∨ idx + 1 ≤ i) with rfl | later
            · exact ⟨plain, above⟩
            · exact clear i later high)
          (by rw [prior]; exact lively_extend live now (Nat.not_le.mp more))
        exact ⟨stop, by omega, stopped⟩

end Search

theorem onsetSearch_cases (r : Ring) (d : Det) (T : Nat) (p : OnsetSettings) (floor : Nat) (trigger : Ref) :
    (∃ edge, scan r d T p.runLength (max (trigger.idx - p.lookBack) (max r.oldest floor)) (p.lookBack + 1) trigger.idx none 0 =
        (none, edge) ∧ onsetSearch r d T p floor trigger = (trigger, true)) ∨
      ∃ c edge, scan r d T p.runLength (max (trigger.idx - p.lookBack) (max r.oldest floor)) (p.lookBack + 1) trigger.idx none 0 =
        (some c, edge) ∧ onsetSearch r d T p floor trigger = (if c.idx = trigger.idx then trigger else c, edge) := by
  unfold onsetSearch
  dsimp only
  split
  · rename_i edge out
    exact Or.inl ⟨edge, out, rfl⟩
  · rename_i c edge out
    exact Or.inr ⟨c, edge, out, rfl⟩

/-- Settles O19: the scan's invariant, and the onset by its candidate. -/
theorem onsetSearchFindsTheOldestRise : Obligations.OnsetSearchFindsTheOldestRise := by
  intro r d T p floor trigger positive hit o edge
  obtain ⟨stop, le, quiet, now, clear, live, onRun, onBound⟩ := scan_stops (r := r) (d := d) (T := T)
    (bound := max (trigger.idx - p.lookBack) (max r.oldest floor)) (top := trigger.idx) positive p.lookBack trigger.idx none 0
    (by omega) (le_refl _) ⟨fun i low high => absurd high (by omega), by omega⟩ positive (fun i low high => absurd high (by omega))
    (fun j low high => absurd high (by omega))
  have bounded : stop = trigger.idx ∨ max (trigger.idx - p.lookBack) (max r.oldest floor) ≤ stop := by
    rcases Nat.lt_or_ge stop trigger.idx with before | at_
    · exact Or.inr (Nat.le_of_lt_succ (clear (stop + 1) (le_refl _) before).2)
    · exact Or.inl (le_antisymm le at_)
  refine ⟨stop, le, by omega, by omega, by omega, fun i low high => (clear i low high).1, ?_⟩
  rcases onsetSearch_cases r d T p floor trigger with ⟨e, out, found⟩ | ⟨c, e, out, found⟩
  · have isTrigger : o = trigger := congrArg Prod.fst found
    have isEdge : edge = true := congrArg Prod.snd found
    rw [out] at now onRun onBound
    obtain ⟨below, run⟩ := now
    rw [isTrigger, isEdge]
    refine ⟨le_refl _, le, Or.inl rfl, fun i low before => below i low (Nat.le_of_lt before),
      fun ⟨i, low, high, rise⟩ => absurd rise (below i low high), fun _ => ⟨rfl, rfl⟩, (fun other => nomatch other),
      fun _ ⟨i, low, high, rise⟩ => absurd rise (below i low high), fun j low high => live j low high, fun _ => ?_⟩
    cases e with
    | false => exact Or.inr (Or.inr ⟨below, by rw [← onRun rfl, Nat.add_comm, run]⟩)
    | true => exact (onBound rfl).2.imp_right Or.inl
  · have isEdge : edge = e := congrArg Prod.snd found
    have isOnset : o = if c.idx = trigger.idx then trigger else c := congrArg Prod.fst found
    rw [out] at now onRun onBound
    obtain ⟨rise, high, place, time, below⟩ := now
    have idx : o.idx = c.idx := by
      rw [isOnset]
      split
      · rename_i same
        exact same.symm
      · rfl
    have read : o = trigger ∨ o.time = (r.read o.idx).time := by
      rw [idx, isOnset]
      split
      · exact Or.inl rfl
      · exact Or.inr time
    rw [isEdge]
    refine ⟨by omega, by omega, read, ?_⟩
    rw [idx]
    refine ⟨below, fun _ => rise, fun none => absurd rise (none c.idx (by omega) high), fun clearEdge => ⟨?_, rise⟩, fun set _ => ?_,
      fun j low high => live j low high, fun set => (onBound set).2.imp_right Or.inl⟩
    · rw [place, onRun clearEdge]
    · have few := (onBound set).1
      omega

end Sys2Proof.Machine
end

section
/-! The Signature Bank: windows, scores and treatment (R23, R89 to R96). -/

namespace Sys2Proof.Machine

/-! ## The score (R91, R92) -/

section Score

variable {gate : Nat} {t : Triple}

/-- The signs of the data: above the gate, below its negative, or none (R91). -/
theorem dataSign_up (up : t.filled = false ∧ 0 < t.cond.z ∧ (gate : Int) ≤ t.cond.z) : dataSign gate t = 1 := by
  obtain ⟨plain, positive, outside⟩ := up
  unfold dataSign
  rw [plain, if_neg (by decide), if_pos]
  rw [Bool.and_eq_true, decide_eq_true_iff, decide_eq_true_iff]
  omega

theorem dataSign_down (down : t.filled = false ∧ t.cond.z < 0 ∧ (gate : Int) ≤ -t.cond.z) : dataSign gate t = -1 := by
  obtain ⟨plain, negative, outside⟩ := down
  unfold dataSign
  rw [plain, if_neg (by decide), if_neg, if_pos]
  · rw [Bool.and_eq_true, decide_eq_true_iff, decide_eq_true_iff]
    omega
  · rw [Bool.and_eq_true, decide_eq_true_iff, decide_eq_true_iff]
    omega

theorem dataSign_none (up : ¬(t.filled = false ∧ 0 < t.cond.z ∧ (gate : Int) ≤ t.cond.z))
    (down : ¬(t.filled = false ∧ t.cond.z < 0 ∧ (gate : Int) ≤ -t.cond.z)) : dataSign gate t = 0 := by
  unfold dataSign
  cases filled : t.filled with
  | true => rfl
  | false =>
    rw [if_neg (by decide), if_neg, if_neg]
    · rw [Bool.and_eq_true, decide_eq_true_iff, decide_eq_true_iff]
      exact fun ⟨negative, outside⟩ => down ⟨filled, negative, by omega⟩
    · rw [Bool.and_eq_true, decide_eq_true_iff, decide_eq_true_iff]
      exact fun ⟨positive, outside⟩ => up ⟨filled, positive, by omega⟩

theorem signOf_pos {v : Int} (h : 0 < v) : signOf v = 1 := if_pos h

theorem signOf_neg {v : Int} (h : v < 0) : signOf v = -1 := by
  unfold signOf
  rw [if_neg (by omega), if_pos h]

theorem contribution_of_compare {p : Position} (compare : p.mask = .compare) :
    contribution gate p t = dataSign gate t * signOf p.value := by
  unfold contribution
  rw [compare]

theorem contribution_of_not_compare {p : Position} (other : p.mask ≠ .compare) : contribution gate p t = 0 := by
  unfold contribution
  split
  · rename_i compare
    exact absurd compare other
  · rfl

/-- One position contributes at most 1, and none but a COMPARE position anything (R92). -/
theorem contribution_natAbs_le (gate : Nat) (p : Position) (t : Triple) :
    (contribution gate p t).natAbs ≤ if p.mask == .compare then 1 else 0 := by
  by_cases compare : p.mask = .compare
  · have data : (dataSign gate t).natAbs ≤ 1 := by
      unfold dataSign
      split_ifs <;> decide
    have sign : (signOf p.value).natAbs ≤ 1 := by
      unfold signOf
      split_ifs <;> decide
    rw [contribution_of_compare compare, Int.natAbs_mul, compare]
    exact Nat.mul_le_mul data sign
  · rw [contribution_of_not_compare compare]
    exact Nat.zero_le _

theorem scoreOf_eq_sum (gate : Nat) (ps : List Position) (w : List Triple) :
    scoreOf gate ps w = ((ps.zip w).map fun x => contribution gate x.1 x.2).sum := by
  induction ps generalizing w with
  | nil => rfl
  | cons p ps ih =>
    cases w with
    | nil => rfl
    | cons t w => rw [scoreOf, ih, List.zip_cons_cons, List.map_cons, List.sum_cons]

theorem scoreOf_natAbs_le (gate : Nat) (ps : List Position) (w : List Triple) :
    (scoreOf gate ps w).natAbs ≤ ((ps.take w.length).filter fun p => p.mask == .compare).length := by
  induction ps generalizing w with
  | nil => exact Nat.zero_le _
  | cons p ps ih =>
    cases w with
    | nil => exact Nat.zero_le _
    | cons t w =>
      rw [scoreOf, List.length_cons, List.take_succ_cons, List.filter_cons]
      have one := contribution_natAbs_le gate p t
      have both := Int.natAbs_add_le (contribution gate p t) (scoreOf gate ps w)
      have others := ih w
      split
      · rename_i compare
        rw [if_pos compare] at one
        rw [List.length_cons]
        omega
      · rename_i other
        rw [if_neg other] at one
        omega

end Score

/-! ## The window (R23, R90) -/

theorem Ring.walkBack_stop {r : Ring} {n idx : Nat} (ends : (r.read idx).disc = true ∨ idx ≤ r.oldest) :
    r.walkBack (n + 1) idx [] = [r.read idx] := by
  unfold Ring.walkBack
  dsimp only
  rw [if_pos]
  rwa [Bool.or_eq_true, decide_eq_true_iff]

theorem Ring.walkBack_on {r : Ring} {n idx : Nat} (on : ¬((r.read idx).disc = true ∨ idx ≤ r.oldest)) :
    r.walkBack (n + 1) idx [] = r.walkBack n (idx - 1) [] ++ [r.read idx] := by
  rw [← Ring.walkBack_append]
  change (if _ then _ else _) = _
  rw [if_neg]
  rwa [Bool.or_eq_true, decide_eq_true_iff]

/-- A walk yields consecutive triples up to the one named, and is cut short at a DISC triple or the oldest held alone (R23). -/
theorem Ring.walkBack_spec (r : Ring) (n idx : Nat) (held : r.oldest ≤ idx) :
    (r.walkBack n idx []).length ≤ n ∧ (r.walkBack n idx []).length ≤ idx + 1 - r.oldest ∧
      (∀ k t, (r.walkBack n idx [])[k]? = some t →
        t = r.read (idx + 1 - (r.walkBack n idx []).length + k) ∧ (k ≠ 0 → t.disc = false)) ∧
      ((r.walkBack n idx []).length = n ∨ idx + 1 - (r.walkBack n idx []).length = r.oldest ∨
        ∃ t, (r.walkBack n idx []).head? = some t ∧ t.disc = true) := by
  induction n generalizing idx with
  | zero => exact ⟨le_refl _, Nat.zero_le _, fun k t none => (nomatch none), Or.inl rfl⟩
  | succ n ih =>
    by_cases ends : (r.read idx).disc = true ∨ idx ≤ r.oldest
    · rw [Ring.walkBack_stop ends]
      refine ⟨Nat.succ_le_succ (Nat.zero_le n), by rw [List.length_singleton]; omega, fun k t at_ => ?_, Or.inr ?_⟩
      · cases k with
        | zero =>
          cases at_
          exact ⟨rfl, fun other => absurd rfl other⟩
        | succ k => cases at_
      · rcases ends with disc | oldest
        · exact Or.inr ⟨_, rfl, disc⟩
        · exact Or.inl (by rw [List.length_singleton]; omega)
    · rw [Ring.walkBack_on ends]
      rw [not_or, Nat.not_le, Bool.not_eq_true] at ends
      obtain ⟨plain, newer⟩ := ends
      obtain ⟨few, within, each, short⟩ := ih (idx - 1) (by omega)
      rw [List.length_append, List.length_singleton]
      have first : idx + 1 - ((r.walkBack n (idx - 1) []).length + 1) = idx - 1 + 1 - (r.walkBack n (idx - 1) []).length := by omega
      refine ⟨by omega, by omega, fun k t at_ => ?_, ?_⟩
      · rw [first]
        rcases getElem?_snoc at_ with ⟨older, -⟩ | ⟨rfl, rfl⟩
        · exact each k t older
        · exact ⟨congrArg r.read (by omega), fun _ => plain⟩
      · rw [first]
        rcases short with full | oldest | ⟨t, head, disc⟩
        · exact Or.inl (congrArg (· + 1) full)
        · exact Or.inr (Or.inl oldest)
        · exact Or.inr (Or.inr ⟨t, by rw [List.head?_append, head]; rfl, disc⟩)

/-! ## The match (R92, R93) -/

/-- The window of a slot on triple `idx` is whole and its score reaches the level, or its negative does and inversion is permitted. -/
def SigSlot.matches (x : SigSlot) (r : Ring) (idx : Nat) : Prop :=
  (r.walkBack x.length idx []).length = x.length ∧
    ((0 < scoreOf x.gate x.positions (r.walkBack x.length idx []) ∧
        (x.compareCount * x.m16 : Nat) ≤ 16 * scoreOf x.gate x.positions (r.walkBack x.length idx [])) ∨
      (x.invert = true ∧ scoreOf x.gate x.positions (r.walkBack x.length idx []) < 0 ∧
        (x.compareCount * x.m16 : Nat) ≤ 16 * -scoreOf x.gate x.positions (r.walkBack x.length idx [])))

theorem SigSlot.reaches_iff (x : SigSlot) (score : Int) : (x.isMatch score || x.isInverted score) = true ↔
    (0 < score ∧ (x.compareCount * x.m16 : Nat) ≤ 16 * score) ∨
      (x.invert = true ∧ score < 0 ∧ (x.compareCount * x.m16 : Nat) ≤ 16 * -score) := by
  unfold SigSlot.isMatch SigSlot.isInverted
  simp only [Bool.or_eq_true, Bool.and_eq_true, decide_eq_true_iff, and_assoc]

theorem SigSlot.evaluate_hit {x : SigSlot} {r : Ring} {idx : Nat} (hit : x.matches r idx) (n : Fin 8) :
    x.evaluate n r idx = some (x.request n r idx (scoreOf x.gate x.positions (r.walkBack x.length idx []))) := by
  obtain ⟨whole, level⟩ := hit
  have window : x.window r idx = some (r.walkBack x.length idx []) := if_pos whole
  unfold SigSlot.evaluate
  rw [window]
  exact if_pos ((x.reaches_iff _).mpr level)

theorem SigSlot.evaluate_miss {x : SigSlot} {r : Ring} {idx : Nat} (miss : ¬x.matches r idx) (n : Fin 8) :
    x.evaluate n r idx = none := by
  by_cases whole : (r.walkBack x.length idx []).length = x.length
  · have window : x.window r idx = some (r.walkBack x.length idx []) := if_pos whole
    unfold SigSlot.evaluate
    rw [window]
    exact if_neg fun level => miss ⟨whole, (x.reaches_iff _).mp level⟩
  · have window : x.window r idx = none := if_neg whole
    unfold SigSlot.evaluate
    rw [window]

/-- Settles O30: the match, the score as a sum of signs, and the walk. -/
theorem slotMatchesAtItsLevel : Obligations.SlotMatchesAtItsLevel := by
  refine ⟨⟨?_, fun gate ps w => ⟨scoreOf_eq_sum gate ps w, scoreOf_natAbs_le gate ps w⟩⟩, ?_, fun r n idx held => r.walkBack_spec n idx held⟩
  · intro x n r idx w score onset hit
    exact ⟨fun yes => SigSlot.evaluate_hit yes n, fun no => SigSlot.evaluate_miss no n⟩
  · intro gate p t up down
    refine ⟨contribution_of_not_compare, fun compare => ?_⟩
    rw [contribution_of_compare compare]
    refine ⟨?_, ?_, ?_⟩
    · rintro (⟨isUp, positive⟩ | ⟨isDown, negative⟩)
      · rw [dataSign_up isUp, signOf_pos positive, one_mul]
      · rw [dataSign_down isDown, signOf_neg negative, neg_mul_neg, one_mul]
    · rintro (⟨isUp, negative⟩ | ⟨isDown, positive⟩)
      · rw [dataSign_up isUp, signOf_neg negative, one_mul]
      · rw [dataSign_down isDown, signOf_pos positive, mul_one]
    · rintro (⟨notUp, notDown⟩ | zero)
      · rw [dataSign_none notUp notDown, zero_mul]
      · rw [zero]
        exact mul_zero _

/-! ## The treatment of a triple (R89, R93, R94) -/

theorem SigSlot.treat_request (x : SigSlot) (n : Fin 8) (r : Ring) (idx : Nat) :
    (x.treat n r idx).2 = if x.state = .active ∧ x.dead = 0 then x.evaluate n r idx else none := by
  unfold SigSlot.treat
  by_cases active : x.state = .active
  · rw [if_neg (not_not.mpr active)]
    by_cases dead : x.dead = 0
    · rw [if_neg (by omega), if_pos ⟨active, dead⟩]
      cases x.evaluate n r idx <;> rfl
    · rw [if_pos (Nat.pos_of_ne_zero dead), if_neg fun both => dead both.2]
  · rw [if_pos active, if_neg fun both => active both.1]

theorem SigSlot.treat_slot (x : SigSlot) (n : Fin 8) (r : Ring) (idx : Nat) :
    (x.state ≠ .active → (x.treat n r idx).1 = x) ∧
      (x.state = .active → x.dead ≠ 0 → (x.treat n r idx).1 = { x with dead := x.dead - 1 }) ∧
      (x.state = .active → x.dead = 0 → (x.treat n r idx).2 = none → (x.treat n r idx).1 = x) ∧
      (x.state = .active → x.dead = 0 → (x.treat n r idx).2 ≠ none → (x.treat n r idx).1 = { x with dead := x.length }) := by
  unfold SigSlot.treat
  refine ⟨fun other => by rw [if_pos other], fun active dead => ?_, fun active dead => ?_, fun active dead => ?_⟩
  · rw [if_neg (not_not.mpr active), if_pos (Nat.pos_of_ne_zero dead)]
  · rw [if_neg (not_not.mpr active), if_neg (by omega)]
    cases x.evaluate n r idx with
    | none => exact fun _ => rfl
    | some q => exact fun none => nomatch none
  · rw [if_neg (not_not.mpr active), if_neg (by omega)]
    cases x.evaluate n r idx with
    | none => exact fun some => absurd rfl some
    | some q => exact fun _ => rfl

/-- The requests that slots make of a triple, in the order given. -/
def State.asks (s : State) (idx : Nat) (ns : List (Fin 8)) : List SigRequest :=
  ns.filterMap fun n => ((s.bank.slots.get n).treat n s.ring idx).2

theorem State.treatSlot_eq {s : State} (bounded : s.counters.signatureMatches ≤ 4294967295) (idx : Nat) (n : Fin 8) :
    s.treatSlot idx n = { s with
      bank := { s.bank with
        slots := s.bank.slots.set n ((s.bank.slots.get n).treat n s.ring idx).1
        requests := s.bank.requests ++ s.asks idx [n] }
      counters := { s.counters with signatureMatches := min 4294967295 (s.counters.signatureMatches + (s.asks idx [n]).length) } } := by
  unfold State.treatSlot State.asks
  rw [List.filterMap_cons, List.filterMap_nil]
  cases treated : (s.bank.slots.get n).treat n s.ring idx with
  | mk x request =>
    cases request with
    | none =>
      have counter : min 4294967295 s.counters.signatureMatches = s.counters.signatureMatches := min_eq_right bounded
      simp only [List.append_nil, List.length_nil, Nat.add_zero, counter]
    | some q => rfl

/-- Slots treated one after the other: each by itself, their requests in that order (R94). -/
theorem State.treatSlots_eq {s : State} (bounded : s.counters.signatureMatches ≤ 4294967295) (idx : Nat) (ns : List (Fin 8))
    (distinct : ns.Nodup) : ∃ slots : Eight SigSlot,
      ns.foldl (fun s n => s.treatSlot idx n) s = { s with
        bank := { s.bank with slots := slots, requests := s.bank.requests ++ s.asks idx ns }
        counters := { s.counters with signatureMatches := min 4294967295 (s.counters.signatureMatches + (s.asks idx ns).length) } } ∧
      ∀ n, slots.get n = if n ∈ ns then ((s.bank.slots.get n).treat n s.ring idx).1 else s.bank.slots.get n := by
  induction ns generalizing s with
  | nil =>
    have counter : min 4294967295 (s.counters.signatureMatches + (s.asks idx []).length) = s.counters.signatureMatches := min_eq_right bounded
    refine ⟨s.bank.slots, ?_, fun n => rfl⟩
    rw [counter, State.asks, List.filterMap_nil, List.append_nil]
    rfl
  | cons n ns ih =>
    obtain ⟨fresh, distinct⟩ := List.nodup_cons.mp distinct
    have first := State.treatSlot_eq bounded idx n
    obtain ⟨u, treated⟩ : ∃ u, s.treatSlot idx n = u := ⟨_, rfl⟩
    rw [treated] at first
    obtain ⟨slots, rest, each⟩ := ih (s := u) (by rw [first]; exact min_le_left _ _) distinct
    have old (k : Fin 8) (other : k ≠ n) : u.bank.slots.get k = s.bank.slots.get k := by
      rw [first]
      exact Eight.get_set_ne _ _ other
    have ring : u.ring = s.ring := by rw [first]
    have later : u.asks idx ns = s.asks idx ns := by
      refine List.filterMap_congr fun k mem => ?_
      rw [ring, old k fun same => fresh (same ▸ mem)]
    have asks : s.asks idx (n :: ns) = s.asks idx [n] ++ s.asks idx ns := by
      unfold State.asks
      rw [← List.filterMap_append, List.singleton_append]
    refine ⟨slots, ?_, fun k => ?_⟩
    · rw [List.foldl_cons, treated, rest, later, first, asks, List.append_assoc, List.length_append, ← Nat.add_assoc]
      have counter : min 4294967295 (min 4294967295 (s.counters.signatureMatches + (s.asks idx [n]).length) + (s.asks idx ns).length) =
          min 4294967295 (s.counters.signatureMatches + (s.asks idx [n]).length + (s.asks idx ns).length) := by omega
      simp only [counter]
    · rw [each k, ring]
      by_cases same : k = n
      · subst same
        rw [if_neg fresh, if_pos List.mem_cons_self, first]
        exact Eight.get_set_self _ _ _
      · rw [old k same]
        exact if_congr (by simp [same]) rfl rfl

/-- The eight slots, each once. -/
theorem mem_slotNumbers (n : Fin 8) : n ∈ slotNumbers := by
  revert n
  decide

theorem State.bankSignal_of {s : State} {c : Cause} (ready : s.bank.feed.signalReady = some c) {want : Cause → Bool}
    (wanted : want c = true) : s.bankSignal want = { s with bank := s.bank.interrupt } := by
  unfold State.bankSignal
  rw [ready]
  exact if_pos wanted

/-- Settles O31: the slots one by one, and the dead times cleared. -/
theorem signatureBankTakesTriplesAndSignals : Obligations.SignatureBankTakesTriplesAndSignals := by
  constructor
  · intro s high ready bounded idx request requests
    have treated : exec .signatureTriple s = .next (slotNumbers.foldl (fun s n => s.treatSlot idx n)
        { s with bank := { s.bank with feed := s.bank.feed.takeTriple } }) := by
      change Host.Outcome.next (s.live _) = _
      rw [State.live_high high]
      exact congrArg Host.Outcome.next (if_pos ready)
    have asked (n : Fin 8) : ((s.bank.slots.get n).treat n s.ring idx).2 = request n := SigSlot.treat_request ..
    have all : State.asks { s with bank := { s.bank with feed := s.bank.feed.takeTriple } } idx slotNumbers = requests :=
      List.filterMap_congr fun n _ => asked n
    obtain ⟨slots, fold, each⟩ := State.treatSlots_eq (s := { s with bank := { s.bank with feed := s.bank.feed.takeTriple } })
      (by exact bounded) idx slotNumbers (by decide)
    rw [all] at fold
    refine ⟨slots, by rw [treated, fold]; rfl, fun n => ?_⟩
    intro x
    rw [each n, if_pos (mem_slotNumbers n), ← asked n]
    exact SigSlot.treat_slot x n s.ring idx
  · intro s c high ready
    refine ⟨s.bank.slots.map fun x => { x with dead := 0 }, fun n => Eight.get_map _ _ _, ?_⟩
    intro u
    refine ⟨fun other => ?_, fun isFlush => ?_⟩
    · change Host.Outcome.next (s.live _) = _
      rw [State.live_high high, State.bankSignal_of ready (by simpa using other)]
      rfl
    · change Host.Outcome.next (s.live _) = _
      rw [State.live_high high, State.bankSignal_of ready (by simpa using isFlush)]
      rfl

end Sys2Proof.Machine
end

section
/-! The messages SIGW, SIGE and SIGD (R80 to R88). -/

namespace Sys2Proof.Machine

/-- A complete action message of enough bytes, at the head of the buffer, is acted on. -/
theorem State.live_action {s : State} {m : InMsg} {code : Byte} {need : Nat} {act : InMsg → State → State}
    {owners : InMsg → State → Bool} (head : s.decodes m) (same : m.code = code) (ready : owners m s = true)
    (complete : m.status = .complete) (long : need ≤ m.body.length) :
    s.live (fun s => s.decode (fun m => m.code == code) owners (action need act)) = act m s.popMessage :=
  (State.live_decode_taken (wanted := fun m => m.code == code) head (beq_iff_eq.mpr same) ready).trans (action_acts (by rw [complete]; decide) long)

/-! ## SIGW (R81 to R84) -/

theorem slotOf_val (n : Fin 8) : slotOf n.val = some n := dif_pos n.isLt

theorem slotOf_of_lt {v : Nat} (h : 7 < v) : slotOf v = none := dif_neg (by omega)

/-- A number of one byte. -/
theorem beVal_byte (b : Byte) : beVal [b] = b.toNat := by
  change 0 * 256 + b.toNat = b.toNat
  omega

/-- A first field of one byte is that byte. -/
theorem takeFields_cons_byte (ns : List Nat) (b : Byte) (rest : List Byte) :
    takeFields (1 :: ns) (b :: rest) = b.toNat :: takeFields ns rest := by
  rw [takeFields, if_pos (by simp), List.take_succ_cons, List.take_zero, beVal_byte]
  rfl

theorem takeFields_nil (n : Nat) (ns : List Nat) (h : 0 < n) : takeFields (n :: ns) [] = [] := by
  rw [takeFields]
  exact if_neg (Nat.not_le.mpr h)

section Pairs

variable {x : SigSlot} {ps : List (Int × Nat)}

/-- Writing pairs changes the positions and the pointer alone. -/
theorem SigSlot.writePairs_frame (x : SigSlot) (ps : List (Int × Nat)) : ps.foldl SigSlot.writePair x = { x with
    positions := (ps.foldl SigSlot.writePair x).positions, writePtr := (ps.foldl SigSlot.writePair x).writePtr } := by
  induction ps generalizing x with
  | nil => rfl
  | cons p ps ih =>
    rw [List.foldl_cons, ih (x.writePair p)]
    unfold SigSlot.writePair
    split <;> rfl

/-- The position a pair makes (R83). -/
def positionOf (p : Int × Nat) : Position := ⟨max (-127) p.1, maskOf p.2⟩

theorem SigSlot.writePairs_spec (x : SigSlot) (ps : List (Int × Nat)) (whole : x.positions.length = 256) (within : x.writePtr ≤ 256) :
    (ps.foldl SigSlot.writePair x).writePtr = min 256 (x.writePtr + ps.length) ∧
      (ps.foldl SigSlot.writePair x).positions.length = 256 ∧
      (∀ k p, ps[k]? = some p → x.writePtr + k < 256 →
        (ps.foldl SigSlot.writePair x).positions[x.writePtr + k]? = some (positionOf p)) ∧
      ∀ i, i < x.writePtr ∨ x.writePtr + ps.length ≤ i → (ps.foldl SigSlot.writePair x).positions[i]? = x.positions[i]? := by
  induction ps generalizing x with
  | nil => exact ⟨by rw [List.length_nil, Nat.add_zero]; exact (min_eq_right within).symm, whole, fun k p at_ => (nomatch at_), fun i _ => rfl⟩
  | cons p ps ih =>
    rw [List.foldl_cons, List.length_cons]
    by_cases room : x.writePtr < 256
    · have written : x.writePair p = { x with positions := x.positions.set x.writePtr (positionOf p), writePtr := x.writePtr + 1 } :=
        if_pos room
      rw [written]
      obtain ⟨ptr, length, each, kept⟩ := ih { x with positions := x.positions.set x.writePtr (positionOf p), writePtr := x.writePtr + 1 }
        ((List.length_set ..).trans whole) room
      dsimp only at ptr each kept
      refine ⟨by rw [ptr]; omega, length, fun k q at_ below => ?_, fun i out => ?_⟩
      · cases k with
        | zero =>
          cases at_
          exact (kept x.writePtr (Or.inl (Nat.lt_succ_self _))).trans (List.getElem?_set_self (by rw [whole]; exact room))
        | succ k =>
          have place : x.writePtr + (k + 1) = x.writePtr + 1 + k := by omega
          rw [place]
          exact each k q at_ (by omega)
      · rw [kept i (by omega)]
        exact List.getElem?_set_ne (by omega)
    · have ignored : x.writePair p = x := if_neg room
      rw [ignored]
      obtain ⟨ptr, length, each, kept⟩ := ih x whole within
      refine ⟨by rw [ptr]; omega, length, fun k q at_ below => absurd below (by omega), fun i out => kept i (by omega)⟩

theorem pairsClamped_iff (ptr : Nat) (ps : List (Int × Nat)) : pairsClamped ptr ps = true ↔
    ∃ (k : Nat) (v : Int) (c : Nat), ps[k]? = some (v, c) ∧ (256 ≤ ptr + k ∨ v = -128 ∨ 2 < c) := by
  induction ps generalizing ptr with
  | nil => simp [pairsClamped]
  | cons p ps ih =>
    have first : pairClamped ptr p = true ↔ 256 ≤ ptr ∨ p.1 = -128 ∨ 2 < p.2 := by
      unfold pairClamped
      simp only [Bool.or_eq_true, decide_eq_true_iff, beq_iff_eq, or_assoc, Config.positions]
    rw [pairsClamped, Bool.or_eq_true, first, ih]
    constructor
    · rintro (bad | ⟨k, v, c, at_, bad⟩)
      · exact ⟨0, p.1, p.2, rfl, bad⟩
      · exact ⟨k + 1, v, c, at_, by rwa [Nat.add_assoc, Nat.add_comm 1 k] at bad⟩
    · rintro ⟨k, v, c, at_, bad⟩
      cases k with
      | zero =>
        cases at_
        exact Or.inl bad
      | succ k =>
        refine Or.inr ⟨k, v, c, at_, ?_⟩
        rwa [Nat.add_assoc, Nat.add_comm 1 k]

end Pairs

/-- The pointer at which a SIGW's pairs begin (R82). -/
def SigSlot.pointerAt (x : SigSlot) (start : Option Nat) : Nat :=
  match start with
  | none => x.writePtr
  | some v => if v = 0xFFFF then x.writePtr else min v 256

theorem SigSlot.startAt_eq (x : SigSlot) (v : Nat) : x.startAt v = { x with writePtr := x.pointerAt (some v) } := by
  unfold SigSlot.startAt SigSlot.pointerAt
  dsimp only
  split
  · rfl
  · rfl

/-- SIGW's work on its slot: LOADING, the pointer moved, the pairs written (R81 to R83). -/
theorem SigSlot.takeSigw_eq (x : SigSlot) (start : Option Nat) (pairs : List (Int × Nat)) (bare : start = none → pairs = []) :
    x.takeSigw start pairs = pairs.foldl SigSlot.writePair { x.loading with writePtr := x.pointerAt start } := by
  unfold SigSlot.takeSigw
  cases start with
  | none =>
    rw [bare rfl]
    rfl
  | some v =>
    dsimp only
    rw [SigSlot.startAt_eq]
    rfl

/-- The CLAMPED of a SIGW's reply. -/
def SigSlot.sigwClamped (x : SigSlot) (start : Option Nat) (pairs : List (Int × Nat)) : Bool :=
  match start with
  | none => false
  | some v => (decide (256 ≤ v) && v != 0xFFFF) || pairsClamped (x.startAt v).writePtr pairs

/-- A SIGW is clamped by its start index or a pair (R82, R83). -/
theorem SigSlot.sigwClamped_iff (x : SigSlot) (start : Option Nat) (pairs : List (Int × Nat)) (bare : start = none → pairs = []) :
    x.sigwClamped start pairs = true ↔
    (∃ v, start = some v ∧ 256 ≤ v ∧ v ≠ 0xFFFF) ∨
      ∃ (k : Nat) (v : Int) (c : Nat), pairs[k]? = some (v, c) ∧ (256 ≤ x.pointerAt start + k ∨ v = -128 ∨ 2 < c) := by
  unfold SigSlot.sigwClamped
  cases start with
  | none =>
    rw [bare rfl]
    simp
  | some v =>
    dsimp only
    rw [Bool.or_eq_true, pairsClamped_iff, SigSlot.startAt_eq, Bool.and_eq_true, decide_eq_true_iff, bne_iff_ne]
    simp

/-- SIGW with a slot's number. -/
theorem takeSigw_of_slot {m : InMsg} {s : State} {n : Fin 8} (first : (takeFields [1, 2] m.body)[0]? = some n.val) : takeSigw m s =
    ackSettings m ((s.bank.slots.get n).sigwClamped (takeFields [1, 2] m.body)[1]?
        (if (takeFields [1, 2] m.body).length = 2 then sigPairs (m.body.drop 3) else []))
      ((takeFields [1, 2] m.body).length + (if (takeFields [1, 2] m.body).length = 2 then sigPairs (m.body.drop 3) else []).length)
      { s with bank := { s.bank with slots := s.bank.slots.set n ((s.bank.slots.get n).takeSigw (takeFields [1, 2] m.body)[1]?
        (if (takeFields [1, 2] m.body).length = 2 then sigPairs (m.body.drop 3) else [])) } } := by
  unfold takeSigw
  dsimp only
  rw [first]
  dsimp only
  rw [slotOf_val]
  rfl

/-- Settles O32: the slot named, the pairs written one by one, and what is clamped. -/
theorem sigwWritesPairsIntoALoadingSlot : Obligations.SigwWritesPairsIntoALoadingSlot := by
  intro s m head code whole pairs
  have taken : exec .sigw s = .next (takeSigw m s.popMessage) :=
    congrArg Host.Outcome.next (State.live_decode_taken head (beq_iff_eq.mpr code) rfl)
  have bare : whole[1]? = none → pairs = [] := fun none => if_neg fun two => by
    rw [List.getElem?_eq_none_iff, two] at none
    omega
  rw [taken]
  refine ⟨fun empty => ?_, fun b rest body above => ?_, fun b rest n body named => ?_⟩
  · unfold takeSigw
    rw [empty, takeFields_nil 1 [2] Nat.one_pos, ← code]
    rfl
  · unfold takeSigw
    rw [body, takeFields_cons_byte]
    dsimp only [List.getElem?_cons_zero]
    rw [slotOf_of_lt above, ← code]
  · obtain ⟨x, slot⟩ : ∃ x, s.bank.slots.get n = x := ⟨_, rfl⟩
    have first : whole[0]? = some n.val := by
      simp only [whole]
      rw [body, takeFields_cons_byte, named]
      rfl
    have written := SigSlot.takeSigw_eq x whole[1]? pairs bare
    have frame := SigSlot.writePairs_frame { x.loading with writePtr := x.pointerAt whole[1]? } pairs
    rw [← written] at frame
    refine ⟨x.takeSigw whole[1]? pairs, x.sigwClamped whole[1]? pairs, ?_, ?_, (congrArg SigSlot.state frame :),
        (congrArg SigSlot.dead frame :), ?_, ?_⟩
    · rw [takeSigw_of_slot first, ← slot, ← code]
      rfl
    · rw [SigSlot.sigwClamped_iff x _ _ bare, slot]
      rfl
    · rw [slot]
      intro old ptr full within
      obtain ⟨pointer, length, each, kept⟩ := SigSlot.writePairs_spec { x.loading with writePtr := x.pointerAt whole[1]? } pairs full within
      rw [← written] at pointer length each kept
      exact ⟨pointer, length, fun k v c at_ room => each k (v, c) at_ room, kept⟩
    · rw [slot]
      exact ⟨(congrArg SigSlot.gate frame :), (congrArg SigSlot.m16 frame :), (congrArg SigSlot.onsetOffset frame :), (congrArg SigSlot.label frame :),
        (congrArg SigSlot.invert frame :)⟩

/-! ## SIGE and SIGD (R85 to R88) -/

/-- The gate a SIGE gives (R85). -/
theorem sigeGate_eq {m : InMsg} (whole : 8 ≤ m.body.length) : beVal ((m.body.drop 1).take 3) =
    65536 * m.at 1 + 256 * m.at 2 + m.at 3 := by
  unfold InMsg.at
  match body : m.body, whole with
  | b0 :: b1 :: b2 :: b3 :: rest, _ =>
    simp only [List.drop_succ_cons, List.drop_zero, List.take_succ_cons, List.take_zero, beVal, List.foldl_cons, List.foldl_nil,
      List.getElem?_cons_succ, List.getElem?_cons_zero, Option.getD_some]
    omega

/-- The clamps of a SIGE (R85). -/
theorem sigeClamped_eq (m : InMsg) (n : Nat) : sigeClamped m n = decide (8388607 < beVal ((m.body.drop 1).take 3) ∨
    m.at 4 < 1 ∨ 16 < m.at 4 ∨ n - 1 < m.at 5 ∨ 1 < m.at 6) := by
  unfold sigeClamped
  simp only [Bool.decide_or, Bool.or_assoc]

theorem InMsg.at_zero {m : InMsg} {b : Byte} {rest : List Byte} (body : m.body = b :: rest) : m.at 0 = b.toNat := by
  unfold InMsg.at
  rw [body]
  rfl

section Switch

variable {s : State} {m : InMsg} {n : Fin 8}

theorem takeSige_of_slot (named : m.at 0 = n.val) : takeSige m s = match (s.bank.slots.get n).takeSige m with
    | none => s.reply (.rfsd m.code .slot)
    | some (x, clamped) => ({ s with bank := { s.bank with slots := s.bank.slots.set n x } }).reply (.ackn m.code clamped false 6) := by
  unfold takeSige
  rw [named, slotOf_val] <;> rfl

theorem takeSigd_of_slot (named : m.at 0 = n.val) : takeSigd m s = match (s.bank.slots.get n).state with
    | .empty => s.reply (.rfsd m.code .slot)
    | .loading => s.reply (.ackn m.code false false 1)
    | .active => ({ s with bank := { s.bank with slots := s.bank.slots.set n (s.bank.slots.get n).loading } }).reply
        (.ackn m.code false false 1) := by
  unfold takeSigd
  rw [named, slotOf_val] <;> rfl

variable {x : SigSlot}

theorem SigSlot.takeSige_unfit (unfit : x.state = .empty ∨ (x.state = .loading ∧ (slotLength x.positions < 8 ∨ comparesOf x.positions < 1))) :
    x.takeSige m = none := by
  unfold SigSlot.takeSige
  rcases unfit with empty | ⟨loading, invalid⟩
  · rw [empty]
  · rw [loading]
    refine if_neg ?_
    unfold validSignature
    rw [Bool.and_eq_true, decide_eq_true_iff, decide_eq_true_iff]
    omega

theorem SigSlot.takeSige_loading (loading : x.state = .loading) (long : 8 ≤ slotLength x.positions) (some' : 1 ≤ comparesOf x.positions) :
    x.takeSige m = some ({ x.store m (slotLength x.positions) with
        state := .active, length := slotLength x.positions, compareCount := comparesOf x.positions, dead := 0 },
      sigeClamped m (slotLength x.positions)) := by
  unfold SigSlot.takeSige
  rw [loading]
  refine if_pos ?_
  unfold validSignature
  rw [Bool.and_eq_true, decide_eq_true_iff, decide_eq_true_iff]
  exact ⟨long, some'⟩

theorem SigSlot.takeSige_active (active : x.state = .active) :
    x.takeSige m = some (x.store m x.length, sigeClamped m x.length) := by
  unfold SigSlot.takeSige
  rw [active]

end Switch

/-- Settles O33: SIGE and SIGD by the state of the slot they name. -/
theorem sigeAndSigdSwitchASlot : Obligations.SigeAndSigdSwitchASlot := by
  intro s m b rest head complete body set
  refine ⟨fun code long => ?_, fun code => ?_⟩
  · intro byte gate put
    have taken : exec .sige s = .next (takeSige m s.popMessage) :=
      congrArg Host.Outcome.next (State.live_action head code rfl complete long)
    have stored (x : SigSlot) (n : Nat) : x.store m n = put x n := by
      unfold SigSlot.store
      rw [sigeGate_eq long]
      rfl
    rw [taken]
    refine ⟨fun above => ?_, fun n named => ?_⟩
    · unfold takeSige
      rw [InMsg.at_zero body, slotOf_of_lt above, ← code]
    · rw [takeSige_of_slot ((InMsg.at_zero body).trans named)]
      intro x N Ncmp clamped
      have clamps (k : Nat) : sigeClamped m k = clamped k := by
        rw [sigeClamped_eq, sigeGate_eq long]
        rfl
      refine ⟨fun unfit => ?_, fun loading long some' => ?_, fun active => ?_⟩
      · rw [SigSlot.takeSige_unfit (x := s.popMessage.bank.slots.get n) (by exact unfit), ← code]
      · rw [SigSlot.takeSige_loading (x := s.popMessage.bank.slots.get n) loading long some', clamps, stored, ← code]
        rfl
      · rw [SigSlot.takeSige_active (x := s.popMessage.bank.slots.get n) active, clamps, stored, ← code]
        rfl
  · have taken : exec .sigd s = .next (takeSigd m s.popMessage) :=
      congrArg Host.Outcome.next (State.live_action head code rfl complete (by rw [body]; exact Nat.succ_le_succ (Nat.zero_le _)))
    rw [taken]
    refine ⟨fun above => ?_, fun n named => ?_⟩
    · unfold takeSigd
      rw [InMsg.at_zero body, slotOf_of_lt above, ← code]
    · rw [takeSigd_of_slot ((InMsg.at_zero body).trans named), ← code]
      intro x
      refine ⟨fun empty => ?_, fun loading => ?_, fun active => ?_⟩
      · rw [show (s.popMessage.bank.slots.get n).state = .empty from empty]
      · rw [show (s.popMessage.bank.slots.get n).state = .loading from loading]
      · rw [show (s.popMessage.bank.slots.get n).state = .active from active]
        rfl

end Sys2Proof.Machine
end

section
/-! The Association Unit: picks, signals and triples (R99 to R116). -/

namespace Sys2Proof.Machine

/-! ## Joining and opening (R102 to R109) -/

section Place

variable {s : State} {p : Pick} {i : Nat} {ev : Event}

/-- The picks still to be taken. -/
def State.dropPick (s : State) (rest : List Pick) : State := { s with assoc := { s.assoc with picks := rest } }

/-- The Event Table replaced. -/
def State.putEvents (s : State) (events : List Event) : State := { s with assoc := { s.assoc with events := events } }

theorem exec_associatePick {rest : List Pick} (high : s.resetLow = false) (picks : s.assoc.picks = p :: rest) :
    exec .associatePick s = .next ((s.dropPick rest).takePick p) := by
  change Host.Outcome.next (s.live _) = _
  rw [State.live_high high, State.associatePick, picks]
  rfl

/-- A pick the fence does not keep out is placed, listed and passed on (R99, R102). -/
theorem exec_associatePick_placed {rest : List Pick} {u : State} {number : Nat} {role : Role} (high : s.resetLow = false)
    (picks : s.assoc.picks = p :: rest) (fresh : isStale s.assoc.fence p = false)
    (placed : (s.dropPick rest).placePick p = (u, number, role)) : exec .associatePick s = .next { u with
      assoc := { u.assoc with recent := placeRecent u.assoc.recent ⟨p.number, p.kind, p.onset.time⟩ }
      outbox := u.outbox ++ [.toRoute p number role] } := by
  rw [exec_associatePick high picks]
  unfold State.takePick
  rw [show isStale (s.dropPick rest).assoc.fence p = false from fresh, placed]
  rfl

theorem State.takePick_stale (stale : isStale s.assoc.fence p = true) :
    s.takePick p = { s with outbox := s.outbox ++ [.toRoute p 0 .none] } := by
  unfold State.takePick
  rw [stale]
  rfl

theorem State.placePick_p (phase : p.phase = .p) : s.placePick p = s.placeP p := by
  unfold State.placePick
  rw [phase]

theorem State.placePick_s (phase : p.phase = .s) : s.placePick p = s.placeS p := by
  unfold State.placePick
  rw [phase]

theorem State.placePick_x (phase : p.phase = .x) : s.placePick p = s.placeX p := by
  unfold State.placePick
  rw [phase]

/-- The event at a place changed. -/
theorem State.changeEvent_eq (at_ : s.assoc.events[i]? = some ev) (f : Event → Event) :
    s.changeEvent i f = s.putEvents (s.assoc.events.set i (f ev)) := by
  unfold State.changeEvent
  rw [List.modify_eq_set_getElem?, at_]
  rfl

theorem State.eventAt_eq (at_ : s.assoc.events[i]? = some ev) : s.eventAt i = ev.number := by
  unfold State.eventAt
  rw [at_]
  rfl

/-- An event that a P pick completes (R104). -/
def Event.adopt (ev : Event) (p : Pick) : Event := { ev.join p.onset.time with p := some ⟨p.number, p.onset.time⟩, pAdopted := true }

/-- An event that an S pick completes (R106). -/
def Event.follow (ev : Event) (p : Pick) : Event := { ev.join p.onset.time with s := some ⟨p.number, p.onset.time⟩ }

theorem State.placeP_duplicate (found : s.duplicateOf p.onset.time = some i) (at_ : s.assoc.events[i]? = some ev) : s.placeP p =
    (s.putEvents (s.assoc.events.set i (ev.join p.onset.time)), ev.number, .duplicate) := by
  unfold State.placeP
  dsimp only
  rw [found]
  dsimp only
  rw [State.changeEvent_eq at_, State.eventAt_eq at_]

theorem State.placeP_adopted (new : s.duplicateOf p.onset.time = none) (found : s.adopter p.onset.time = some i)
    (at_ : s.assoc.events[i]? = some ev) : s.placeP p =
    (s.putEvents (s.assoc.events.set i (ev.adopt p)), ev.number, .p) := by
  unfold State.placeP
  dsimp only
  rw [new, found]
  dsimp only
  rw [State.changeEvent_eq at_, State.eventAt_eq at_]
  rfl

theorem State.placeP_opens (new : s.duplicateOf p.onset.time = none) (alone : s.adopter p.onset.time = none) :
    s.placeP p = (s.openEvent p true, s.assoc.nextEvent, .p) := by
  unfold State.placeP
  dsimp only
  rw [new, alone]

theorem State.placeS_joins (found : s.sJoin p.onset.time = some i) (at_ : s.assoc.events[i]? = some ev) : s.placeS p =
    (s.putEvents (s.assoc.events.set i (ev.follow p)), ev.number, .s) := by
  unfold State.placeS
  dsimp only
  rw [found]
  dsimp only
  rw [State.changeEvent_eq at_, State.eventAt_eq at_]
  rfl

theorem State.placeS_opens (alone : s.sJoin p.onset.time = none) : s.placeS p = (s.openEvent p false, s.assoc.nextEvent, .s) := by
  unfold State.placeS
  dsimp only
  rw [alone]

theorem State.placeX_joins (found : s.xJoin p.onset.time = some i) (at_ : s.assoc.events[i]? = some ev) : s.placeX p =
    (s.putEvents (s.assoc.events.set i (ev.join p.onset.time)), ev.number, .member) := by
  unfold State.placeX
  dsimp only
  rw [found]
  dsimp only
  rw [State.changeEvent_eq at_, State.eventAt_eq at_]

theorem State.placeX_alone (alone : s.xJoin p.onset.time = none) : s.placeX p = (s, 0, .none) := by
  unfold State.placeX
  dsimp only
  rw [alone]

/-- The reports handed on for the event queue, or lost to DISCARD (R116). -/
def State.handing (s : State) (rs : List EventReport) : List Handed :=
  match s.assoc.settings.queue with
  | none => []
  | some q => rs.map (.report q)

theorem State.handReport_handing (s : State) (r : EventReport) : s.handReport r = { s with outbox := s.outbox ++ s.handing [r] } := by
  rw [State.handReport_eq]
  unfold State.handing
  cases s.assoc.settings.queue <;> rfl

theorem State.handing_nil (s : State) : s.handing [] = [] := by
  unfold State.handing
  cases s.assoc.settings.queue <;> rfl

/-- The OPEN report, when the flag asks for it (R105, R106). -/
def State.openReports (s : State) (ev : Event) : List EventReport := if s.assoc.settings.openReport then [ev.openReport] else []

/-- An event opened after the forced close (R105, R106, R109). -/
theorem State.openEvent_eq {u : State} (room : s.forceRoom = u) (isP : Bool) : s.openEvent p isP = { u with
    assoc := { u.assoc with
      events := u.assoc.events ++ [openedEvent u.assoc.nextEvent p isP], nextEvent := nextNumber u.assoc.nextEvent }
    outbox := u.outbox ++ u.handing (u.openReports (openedEvent u.assoc.nextEvent p isP)) } := by
  unfold State.openEvent
  rw [room]
  dsimp only
  cases report : u.assoc.settings.openReport with
  | false =>
    rw [if_neg (by decide), State.openReports, report]
    change _ = { u with assoc := _, outbox := u.outbox ++ u.handing [] }
    rw [State.handing_nil, List.append_nil]
  | true =>
    rw [if_pos rfl, State.handReport_handing, State.openReports, report]
    rfl

theorem State.forceRoom_of_room (room : s.assoc.events.length < 8) : s.forceRoom = s := if_pos room

/-- With room and without an OPEN report, the table and the next event number alone change. -/
theorem State.openEvent_silent (room : s.assoc.events.length < 8) (silent : s.assoc.settings.openReport = false) {isP : Bool} :
    s.openEvent p isP = { s with assoc := { s.assoc with
      events := s.assoc.events ++ [openedEvent s.assoc.nextEvent p isP], nextEvent := nextNumber s.assoc.nextEvent } } := by
  rw [State.openEvent_eq (State.forceRoom_of_room room), State.openReports, silent, if_neg (by decide), State.handing_nil,
    List.append_nil]

/-- The earliest first onset, a tie going to the earlier in the table (R109). -/
theorem oldestEvent_eq {evs : List Event} (at_ : evs[i]? = some ev)
    (first : ∀ j w, evs[j]? = some w → ev.first ≤ w.first ∧ (j < i → ev.first < w.first)) : oldestEvent evs = some i := by
  refine best_some_iff.mpr ⟨-(ev.first : Int), ev, at_, rfl, fun j w v at_j score => ?_⟩
  cases score
  have order := first j w at_j
  exact ⟨by omega, fun before => by have := order.2 before; omega⟩

theorem State.forceRoom_of_full (full : s.assoc.events.length = 8) (at_ : s.assoc.events[i]? = some ev)
    (first : ∀ j w, s.assoc.events[j]? = some w → ev.first ≤ w.first ∧ (j < i → ev.first < w.first)) : s.forceRoom = { s with
      assoc := { s.assoc with events := s.assoc.events.eraseIdx i }
      counters := { s.counters with eventsForced := ctr s.counters.eventsForced 1 }
      outbox := s.outbox ++ s.handing [ev.closeReport s.period .full] } := by
  unfold State.forceRoom
  rw [if_neg (by rw [full]; decide), oldestEvent_eq at_ first]
  dsimp only
  rw [at_]
  dsimp only
  rw [State.handReport_handing]
  rfl

end Place

/-- Settles O34: the place of a pick by its phase, and the stale pick. -/
theorem pickIsPlacedByItsPhase : Obligations.PickIsPlacedByItsPhase := by
  refine ⟨?_, ?_, ?_⟩
  · intro s p rest high picks phase fresh t recent joined grow
    have placed {u : State} {number : Nat} {role : Role} (place : (s.dropPick rest).placeP p = (u, number, role)) :=
      exec_associatePick_placed high picks fresh ((State.placePick_p phase).trans place)
    refine ⟨fun i ev found at_ => ?_, fun i ev new found at_ => ?_, fun new alone room silent => ?_⟩
    · exact placed (State.placeP_duplicate (by exact found) (by exact at_))
    · exact placed (State.placeP_adopted (by exact new) (by exact found) (by exact at_))
    · rw [placed (State.placeP_opens (by exact new) (by exact alone)), State.openEvent_silent (by exact room) (by exact silent)]
      rfl
  · intro s p rest high picks fresh t recent joined grow
    refine ⟨fun phase => ?_, fun phase => ?_⟩
    · have placed {u : State} {number : Nat} {role : Role} (place : (s.dropPick rest).placeS p = (u, number, role)) :=
        exec_associatePick_placed high picks fresh ((State.placePick_s phase).trans place)
      refine ⟨fun i ev found at_ => ?_, fun alone room silent => ?_⟩
      · exact placed (State.placeS_joins (by exact found) (by exact at_))
      · rw [placed (State.placeS_opens (by exact alone)), State.openEvent_silent (by exact room) (by exact silent)]
        rfl
    · have placed {u : State} {number : Nat} {role : Role} (place : (s.dropPick rest).placeX p = (u, number, role)) :=
        exec_associatePick_placed high picks fresh ((State.placePick_x phase).trans place)
      refine ⟨fun i ev found at_ => ?_, fun alone => ?_⟩
      · exact placed (State.placeX_joins (by exact found) (by exact at_))
      · exact placed (State.placeX_alone (by exact alone))
  · intro s p rest high picks kept
    have stale : isStale s.assoc.fence p = true := by
      unfold isStale
      rcases kept with ⟨fence, cause⟩ | ⟨fence, cause | cause⟩ <;> rw [fence, cause]
    rw [exec_associatePick high picks, State.takePick_stale (by exact stale)]
    rfl

/-- Settles O35: the event opened with room, or after the forced close. -/
theorem fullTableForcesTheOldestEventOut : Obligations.FullTableForcesTheOldestEventOut := by
  intro s p rest high picks fresh opens t isP m new hand opened
  have placed : (s.dropPick rest).placePick p = ((s.dropPick rest).openEvent p isP, s.assoc.nextEvent, if isP then .p else .s) := by
    rcases opens with ⟨phase, unique, alone⟩ | ⟨phase, alone⟩
    · rw [State.placePick_p phase, State.placeP_opens (by exact unique) (by exact alone), show isP = true from decide_eq_true phase]
      rfl
    · rw [State.placePick_s phase, State.placeS_opens (by exact alone),
        show isP = false from decide_eq_false (by rw [phase]; decide)]
      rfl
  have handed (rs : List EventReport) : hand rs = s.handing rs := by
    cases queue : s.assoc.settings.queue <;> simp [hand, State.handing, queue]
  rw [exec_associatePick_placed high picks fresh placed]
  refine ⟨fun room => ?_, fun i ev full at_ first => ?_⟩
  · rw [State.openEvent_eq (State.forceRoom_of_room (by exact room))]
    simp only [opened, handed, State.handing_nil, List.append_nil]
    rfl
  · rw [State.openEvent_eq (State.forceRoom_of_full (s := s.dropPick rest) (by exact full) (by exact at_) (by exact first))]
    simp only [opened, handed]
    rfl

end Sys2Proof.Machine
end

section
/-! Closing events: the Association Unit's signals and triples (R110 to R116). -/

namespace Sys2Proof.Machine

section Close

variable {s : State}

/-- CLOSE reports of several events, handed on or lost (R116). -/
def State.closing (s : State) (evs : List Event) (cause : Event → CloseCause) : List Handed :=
  match s.assoc.settings.queue with
  | none => []
  | some q => evs.map fun ev => .report q (ev.closeReport s.period (cause ev))

theorem State.closing_nil (s : State) (cause : Event → CloseCause) : s.closing [] cause = [] := by
  unfold State.closing
  cases s.assoc.settings.queue <;> rfl

theorem State.closeWhere_closing (s : State) (test : Event → Bool) (cause : Event → CloseCause) : s.closeWhere test cause =
    { s with
      assoc := { s.assoc with events := s.assoc.events.filter fun ev => !test ev }
      outbox := s.outbox ++ s.closing (s.assoc.events.filter test) cause } := by
  rw [State.closeWhere_eq]
  unfold State.closing
  cases s.assoc.settings.queue <;> rfl

/-- Every event closes (R113, R115). -/
theorem State.closeWhere_all (s : State) (cause : Event → CloseCause) : s.closeWhere (fun _ => true) cause =
    { s with assoc := { s.assoc with events := [] }, outbox := s.outbox ++ s.closing s.assoc.events cause } := by
  have all : s.assoc.events.filter (fun _ => true) = s.assoc.events := List.filter_true _
  have none : s.assoc.events.filter (fun _ => !true) = [] := List.filter_false _
  rw [State.closeWhere_closing, all, none]

theorem State.abandonTime_eq (s : State) (f : Fence) : s.abandonTime f = { s with
    assoc := { s.assoc with events := [], recent := [], gapNote := none, fence := some f }
    outbox := s.outbox ++ s.closing s.assoc.events fun _ => .time } := by
  unfold State.abandonTime
  rw [State.closeWhere_all]

theorem State.associationGap_of (ready : s.assoc.feed.signalReady = some .gap ∨ s.assoc.feed.signalReady = some .stop) :
    s.associationGap = { s with assoc := { s.assoc with
      feed := s.assoc.feed.takeSignal
      gapNote := if s.assoc.gapNote.isSome then s.assoc.gapNote else some s.assoc.lastTime
      fence := none } } := by
  unfold State.associationGap
  rcases ready with ready | ready <;> rw [ready] <;> rfl

theorem State.associationTime_of (ready : s.assoc.feed.signalReady = some .time) :
    s.associationTime = s.takeAssocSignal.abandonTime .time := by
  unfold State.associationTime
  rw [ready]

theorem State.associationFlush_of (ready : s.assoc.feed.signalReady = some .flush) : s.associationFlush = { s with
    assoc := { s.assoc with feed := s.assoc.feed.takeSignal, events := [], recent := [], gapNote := none, fence := none }
    outbox := s.outbox ++ s.closing s.assoc.events fun _ => .flush } := by
  unfold State.associationFlush
  rw [ready]
  dsimp only
  rw [State.closeWhere_all]
  rfl

end Close

/-- Settles O36: the note, the fence and the reports of each signal. -/
theorem associationSignals : Obligations.AssociationSignals := by
  intro s high feed closes
  have closing (c : CloseCause) : closes c = s.closing s.assoc.events fun _ => c := by
    cases queue : s.assoc.settings.queue <;> simp [closes, State.closing, queue]
  refine ⟨fun ready => ?_, fun ready => ?_, fun ready => ?_⟩
  · change Host.Outcome.next (s.live _) = _
    have note : (if s.assoc.gapNote.isSome then s.assoc.gapNote else some s.assoc.lastTime) =
        if s.assoc.gapNote = none then some s.assoc.lastTime else s.assoc.gapNote := by
      cases s.assoc.gapNote <;> rfl
    rw [State.live_high high, State.associationGap_of ready, note]
    rfl
  · change Host.Outcome.next (s.live _) = _
    rw [State.live_high high, State.associationTime_of ready, State.abandonTime_eq, closing]
    rfl
  · change Host.Outcome.next (s.live _) = _
    rw [State.live_high high, State.associationFlush_of ready, closing]
    rfl

/-! ## A triple (R110, R112, R113) -/

section Triple

variable {s : State} {t : Nat}

/-- The cause with which a late event closes: GAP where a note is held and the deadline is no earlier than it (R112). -/
def State.lateCause (s : State) (ev : Event) : CloseCause :=
  match s.assoc.gapNote with
  | none => .quiet
  | some none => .gap
  | some (some n) => if n ≤ s.deadline ev then .gap else .quiet

/-- The events whose deadline is earlier than the triple (R110). -/
def State.isLate (s : State) (t : Nat) (ev : Event) : Bool := decide (s.deadline ev < t)

/-- A gap note whose time the triple does not pass (R113). -/
theorem State.judgeGap_back {n : Nat} (note : s.assoc.gapNote = some (some n)) (back : t ≤ n) :
    s.judgeGap t = s.abandonTime .gapStop := by
  unfold State.judgeGap
  rw [note]
  exact if_pos (decide_eq_true back)

theorem State.judgeGap_none (note : s.assoc.gapNote = none) : s.judgeGap t = s := by
  unfold State.judgeGap
  rw [note]

/-- A gap note that the triple passes, or one without a time (R112). -/
theorem State.judgeGap_on {note : Option Nat} (held : s.assoc.gapNote = some note) (on : ∀ n, note = some n → n < t) :
    s.judgeGap t = { s with
      assoc := { s.assoc with events := s.assoc.events.filter fun ev => !s.isLate t ev, gapNote := none }
      outbox := s.outbox ++ s.closing (s.assoc.events.filter (s.isLate t)) s.lateCause } := by
  have judged : s.judgeGap t = { s.closeWhere (s.isLate t) s.lateCause with
      assoc := { (s.closeWhere (s.isLate t) s.lateCause).assoc with gapNote := none } } := by
    unfold State.judgeGap
    rw [held]
    cases note with
    | none =>
      have cause : s.lateCause = fun _ => .gap := by
        funext ev
        unfold State.lateCause
        rw [held]
      rw [cause]
      rfl
    | some n =>
      have cause : s.lateCause = fun ev => if n ≤ s.deadline ev then .gap else .quiet := by
        funext ev
        unfold State.lateCause
        rw [held]
      rw [cause]
      exact if_neg (by simpa using on n rfl)
  rw [judged, State.closeWhere_closing]

/-- What the gap judgement leaves of the late events, the closing check closes with QUIET; none are left where a note was judged. -/
theorem State.closeQuiet_judgeGap (on : ∀ n, s.assoc.gapNote = some (some n) → n < t) : (s.judgeGap t).closeQuiet t = { s with
    assoc := { s.assoc with events := s.assoc.events.filter fun ev => !s.isLate t ev, gapNote := none }
    outbox := s.outbox ++ s.closing (s.assoc.events.filter (s.isLate t)) s.lateCause } := by
  cases held : s.assoc.gapNote with
  | none =>
    have cause : s.lateCause = fun _ => .quiet := by
      funext ev
      unfold State.lateCause
      rw [held]
    rw [State.judgeGap_none held, State.closeQuiet, State.closeWhere_closing, cause]
    change { s with assoc := _, outbox := _ } = _
    rw [← held]
    rfl
  | some note =>
    rw [State.judgeGap_on held fun n is => on n (held.trans (congrArg some is)), State.closeQuiet, State.closeWhere_closing]
    have again : (s.assoc.events.filter fun ev => !s.isLate t ev).filter (s.isLate t) = [] := by
      rw [List.filter_filter, List.filter_eq_nil_iff]
      intro ev _
      cases s.isLate t ev <;> decide
    have kept : (s.assoc.events.filter fun ev => !s.isLate t ev).filter (fun ev => !s.isLate t ev) =
        s.assoc.events.filter fun ev => !s.isLate t ev := by
      rw [List.filter_filter]
      simp only [Bool.and_self]
    change { s with
      assoc := { s.assoc with
        events := (s.assoc.events.filter fun ev => !s.isLate t ev).filter fun ev => !s.isLate t ev, gapNote := none }
      outbox := (s.outbox ++ s.closing (s.assoc.events.filter (s.isLate t)) s.lateCause) ++
        s.closing ((s.assoc.events.filter fun ev => !s.isLate t ev).filter (s.isLate t)) fun _ => .quiet } = _
    rw [kept, again, State.closing_nil, List.append_nil]

end Triple

theorem State.associationTriple_of {s : State} (ready : s.assoc.feed.tripleReady s.ring = true) {u : State} {t : Nat}
    (time : (s.ring.read s.assoc.feed.taken).time = t)
    (judged : (({ s with assoc := { s.assoc with feed := s.assoc.feed.takeTriple } } : State).judgeGap t).closeQuiet t = u) :
    s.associationTriple = { u with assoc := { u.assoc with lastTime := some t } } := by
  subst time judged
  exact if_pos ready

/-- After a jump back no event is left for the closing check. -/
theorem State.closeQuiet_empty {s : State} (empty : s.assoc.events = []) (t : Nat) : s.closeQuiet t = s := by
  rw [State.closeQuiet, State.closeWhere_closing, empty, List.filter_nil, List.filter_nil, State.closing_nil, List.append_nil, ← empty]

/-- The S-P of a CLOSE report: the difference of the onsets to the nearest period (R116). -/
theorem rounded_div {x period : Nat} (positive : 0 < period) : 2 * ((x + period / 2) / period * period) ≤ 2 * x + period ∧
    2 * x + period < 2 * ((x + period / 2) / period * period) + 2 * period := by
  have low := Nat.div_mul_le_self (x + period / 2) period
  have high := Nat.lt_div_mul_add positive (a := x + period / 2)
  omega

/-- Settles O37: the jump back, the events past their deadline, and the items of a report. -/
theorem associationTripleClosesEvents : Obligations.AssociationTripleClosesEvents := by
  refine ⟨?_, ?_⟩
  · intro s high ready closes time deadline feed late cause
    have closing (evs : List Event) (cause : Event → CloseCause) : closes evs cause = s.closing evs cause := by
      cases queue : s.assoc.settings.queue <;> simp [closes, State.closing, queue]
    have causes : cause = s.lateCause := by
      funext ev
      rcases note : s.assoc.gapNote with _ | _ | n <;> simp [cause, State.lateCause, note] <;> rfl
    have taken : exec .associationTriple s = .next s.associationTriple := by
      change Host.Outcome.next (s.live _) = _
      rw [State.live_high high]
    rw [taken]
    refine ⟨fun ⟨n, note, back⟩ => ?_, fun on => ?_⟩
    · rw [State.associationTriple_of ready rfl ((congrArg (State.closeQuiet · _) (State.judgeGap_back (by exact note) back)).trans
        (State.closeQuiet_empty (by rw [State.abandonTime_eq]) _)), State.abandonTime_eq, closing]
      rfl
    · rw [State.associationTriple_of ready rfl (State.closeQuiet_judgeGap (by exact on)), closing, causes]
      rfl
  · intro ev period c r
    refine ⟨rfl, rfl, rfl, rfl, rfl, rfl, rfl, rfl, ?_, fun positive a b isP isS _ => ?_⟩
    · change (spSamples period ev.p ev.s).isSome = true ↔ _
      cases ev.p <;> cases ev.s <;> simp [spSamples]
    · refine ⟨(b.onset - a.onset + period / 2) / period, ?_, rounded_div positive⟩
      change spSamples period ev.p ev.s = _
      rw [isP, isS]
      rfl

end Sys2Proof.Machine
end

section
/-! Settings messages and refusals (R73, R74, R117, R153, R162 to R165, R177). -/

namespace Sys2Proof.Machine

/-! ## Reading fields (R164) -/

theorem beVal_acc (a : Nat) (bs : List Byte) : bs.foldl (fun v b => v * 256 + b.toNat) a = a * 256 ^ bs.length + beVal bs := by
  unfold beVal
  induction bs generalizing a with
  | nil => simp
  | cons b bs ih =>
    rw [List.foldl_cons, List.foldl_cons, ih, ih (0 * 256 + b.toNat), List.length_cons]
    ring

theorem beVal_cons (b : Byte) (bs : List Byte) : beVal (b :: bs) = b.toNat * 256 ^ bs.length + beVal bs := by
  rw [beVal, List.foldl_cons, beVal_acc]
  congr 2
  omega

/-- Field `i` is there exactly when the body reaches its last byte (R164). -/
theorem takeFields_get {ns : List Nat} {bs : List Byte} {i n : Nat} (width : ns[i]? = some n) :
    ((ns.take (i + 1)).sum ≤ bs.length → (takeFields ns bs)[i]? = some (beVal ((bs.drop (ns.take i).sum).take n))) ∧
      (bs.length < (ns.take (i + 1)).sum → (takeFields ns bs)[i]? = none) := by
  induction ns generalizing bs i with
  | nil => cases width
  | cons k ns ih =>
    rw [takeFields, List.take_succ_cons, List.sum_cons]
    by_cases first : k ≤ bs.length
    · rw [if_pos first]
      cases i with
      | zero =>
        cases width
        exact ⟨fun _ => rfl, fun short => absurd first (Nat.not_le.mpr (by simpa using short))⟩
      | succ i =>
        obtain ⟨there, gone⟩ := ih (bs := bs.drop k) width
        rw [List.length_drop] at there gone
        rw [List.getElem?_cons_succ, List.take_succ_cons, List.sum_cons, ← List.drop_drop]
        exact ⟨fun reach => there (by omega), fun short => gone (by omega)⟩
    · rw [if_neg first]
      exact ⟨fun reach => absurd (le_trans (Nat.le_add_right _ _) reach) first, fun _ => rfl⟩

theorem takeFields_length_le (ns : List Nat) (bs : List Byte) : (takeFields ns bs).length ≤ ns.length := by
  induction ns generalizing bs with
  | nil => exact le_refl _
  | cons n ns ih =>
    rw [takeFields]
    split
    · exact Nat.succ_le_succ (ih _)
    · exact Nat.zero_le _

/-! ## The pair checks -/

theorem PhaseSettings.pairs_ne (p : PhaseSettings) :
    (p.pairs != p) = true ↔ p.g2 < p.g1 ∨ p.g3 < max p.g2 p.g1 ∨ p.sLimit ≤ p.pLimit := by
  obtain ⟨g1, g2, g3, pLimit, sLimit⟩ := p
  rw [bne_iff_ne, PhaseSettings.pairs, Ne, PhaseSettings.mk.injEq]
  dsimp only
  split_ifs <;> omega

theorem EventSettings.pairs_ne (p : EventSettings) : (p.pairs != p) = true ↔ p.spMax < p.spMin := by
  obtain ⟨spMin, spMax, pTolerance, xWindow, closeWindow, openReport, queue⟩ := p
  rw [bne_iff_ne, EventSettings.pairs, Ne, EventSettings.mk.injEq]
  simp

theorem SnipSettings.pairs_ne (p : SnipSettings) : (p.pairs != p) = true ↔ 512 - p.pre < p.post := by
  obtain ⟨pre, post, size⟩ := p
  rw [bne_iff_ne, SnipSettings.pairs, Ne, SnipSettings.mk.injEq]
  simp

/-! ## The stored settings -/

theorem OnsetSettings.apply_eq (p : OnsetSettings) (fs : List Nat) : p.apply fs = ⟨putField fs 0 8 1024 p.lookBack,
    putField fs 1 1 64 p.runLength, putField fs 2 16 255 p.factor, putField fs 3 16 256 p.measureLen, putField fs 4 0 255 p.tolerance⟩ := by
  simp only [OnsetSettings.apply, setting_putField]

theorem PhaseSettings.store_eq (p : PhaseSettings) (fs : List Nat) : p.store fs = ⟨putField fs 0 0 4095 p.g1,
    putField fs 1 0 4095 p.g2, putField fs 2 0 4095 p.g3, putField fs 3 0 4094 p.pLimit, putField fs 4 1 4095 p.sLimit⟩ := by
  simp only [PhaseSettings.store, setting_putField]

theorem EventSettings.store_eq (p : EventSettings) (fs : List Nat) : p.store fs = {
    spMin := putField fs 0 1 65535 p.spMin
    spMax := putField fs 1 0 65535 p.spMax
    pTolerance := putField fs 2 0 255 p.pTolerance
    xWindow := putField fs 3 0 65535 p.xWindow
    closeWindow := putField fs 4 256 65535 p.closeWindow
    openReport := (fs[5]?.map fun v => decide (v ≠ 0)).getD p.openReport
    queue := match fs[6]? with | none => p.queue | some v => queueOf v } := by
  simp only [EventSettings.store, setting_putField, flagSetting_eq] <;> rfl

theorem SnipSettings.store_eq (p : SnipSettings) (fs : List Nat) : p.store fs =
    ⟨putField fs 0 0 255 p.pre, putField fs 1 1 511 p.post, putField fs 2 4 24 p.size⟩ := by
  simp only [SnipSettings.store, setting_putField]

/-- A settings message at the head of the buffer is taken. -/
theorem exec_settings {s : State} {m : InMsg} {c : Instr} {code : Byte} {take : InMsg → State → State} (head : s.decodes m)
    (same : m.code = code) (arm : exec c s = .next (s.live fun s => s.decode (fun m => m.code == code) always take)) :
    exec c s = .next (take m s.popMessage) := by
  rw [arm, State.live_decode_taken (wanted := fun m => m.code == code) head (beq_iff_eq.mpr same) rfl]

/-- Settles O38: the fields by their widths, and each settings message by its store and its pairs. -/
theorem settingsAreReadStoredAndChecked : Obligations.SettingsAreReadStoredAndChecked := by
  refine ⟨fun ns bs i => ⟨fun n width => takeFields_get width, fun past => ?_, beVal_cons⟩, ?_⟩
  · exact List.getElem?_eq_none_iff.mpr (le_trans (takeFields_length_le ns bs) past)
  · intro s m head put out
    refine ⟨?_, ?_, ?_, ?_⟩
    · intro code fs p
      refine ⟨onstClamped fs, ?_, ?_⟩
      · rw [exec_settings (c := .onst) head code rfl, takeOnst, ackSettings, OnsetSettings.apply_eq, code]
        rfl
      · simp only [onstClamped, Bool.or_eq_true, outside_iff, or_assoc, out]
    · intro code fs p g1 g2 g3 pl sl
      refine ⟨phasClamped fs || (p.store fs).pairs != p.store fs, ?_, ?_⟩
      · rw [exec_settings (c := .phas) head code rfl, takePhas, ackSettings, code]
        have stored : (p.store fs).pairs = ⟨g1, max g2 g1, max g3 (max g2 g1), pl, if sl ≤ pl then pl + 1 else sl⟩ := by
          rw [PhaseSettings.store_eq]
          rfl
        rw [← stored]
        rfl
      · rw [Bool.or_eq_true, PhaseSettings.pairs_ne, PhaseSettings.store_eq]
        simp only [phasClamped, Bool.or_eq_true, outside_iff, or_assoc]
        rfl
    · intro code fs p low high
      refine ⟨evtsClamped fs || (p.store fs).pairs != p.store fs, ?_, ?_⟩
      · rw [exec_settings (c := .evts) head code rfl, takeEvts, ackSettings, code]
        have stored : (p.store fs).pairs = {
            spMin := low
            spMax := max high low
            pTolerance := put fs 2 0 255 p.pTolerance
            xWindow := put fs 3 0 65535 p.xWindow
            closeWindow := put fs 4 256 65535 p.closeWindow
            openReport := (fs[5]?.map fun v => decide (v ≠ 0)).getD p.openReport
            queue := match fs[6]? with
              | none => p.queue
              | some v => if h : v < 4 then some ⟨v, h⟩ else none } := by
          rw [EventSettings.store_eq]
          rfl
        exact congrArg (fun x => Host.Outcome.next (State.reply { s.popMessage with assoc := { s.assoc with settings := x } }
          (.ackn 0x0F (evtsClamped fs || (p.store fs).pairs != p.store fs) m.isBroken fs.length))) stored
      · rw [Bool.or_eq_true, EventSettings.pairs_ne, EventSettings.store_eq]
        simp only [evtsClamped, Bool.or_eq_true, outside_iff, or_assoc]
        rfl
    · intro code fs p pre post
      refine ⟨snipClamped fs || (p.store fs).pairs != p.store fs, ?_, ?_⟩
      · rw [exec_settings (c := .snip) head code rfl, takeSnip, ackSettings, code]
        have stored : (p.store fs).pairs = ⟨pre, min post (512 - pre), put fs 2 4 24 p.size⟩ := by
          rw [SnipSettings.store_eq]
          rfl
        rw [← stored]
        rfl
      · rw [Bool.or_eq_true, SnipSettings.pairs_ne, SnipSettings.store_eq]
        simp only [snipClamped, Bool.or_eq_true, outside_iff, or_assoc]
        rfl

/-! ## Refusals (R162, R163, R165) -/

section Refusals

variable {s : State} {m : InMsg} {wanted : InMsg → Bool} {owners : InMsg → State → Bool} {take : InMsg → State → State}

/-- The decoder is busy, or the oldest message is not one asked for. -/
def State.passesOver (s : State) (wanted : InMsg → Bool) : Prop :=
  8 ≤ s.link.replies.length ∨ s.flushing = true ∨ ∀ m, s.link.inbox.head? = some m → m.status = .inProgress ∨ wanted m = false

/-- A decode that may not be taken changes nothing (log 3). -/
theorem State.decode_passedOver (h : s.passesOver wanted) : s.decode wanted owners take = s := by
  rcases s.decode_cases wanted owners take with same | ⟨m, head, status, flushing, is, -, room, -⟩
  · exact same
  · rcases h with full | busy | other
    · exact absurd room (Nat.not_lt.mpr full)
    · cases flushing.symm.trans busy
    · rcases other m head with inProgress | no
      · exact absurd inProgress status
      · cases is.symm.trans no

theorem exec_passedOver {c : Instr} (arm : exec c s = .next (s.live fun s => s.decode wanted owners take)) (h : s.passesOver wanted) :
    exec c s = .next s := by
  rw [arm, State.live_same (State.decode_passedOver h)]

/-- A broken or short action is refused, its owners not waited for where they stand ready. -/
theorem exec_short {c : Instr} {code : Byte} {need : Nat} {act : InMsg → State → State} (head : s.decodes m) (same : m.code = code)
    (ready : owners m s = true) (short : m.status = .broken ∨ m.body.length < need)
    (arm : exec c s = .next (s.live fun s => s.decode (fun m => m.code == code) owners (action need act))) :
    exec c s = .next (s.popMessage.reply (.rfsd code .short)) := by
  rw [arm, State.live_decode_taken (wanted := fun m => m.code == code) head (beq_iff_eq.mpr same) ready, action_short short, same]

theorem statOwners_of_short (short : m.status = .broken ∨ m.body.length < 0) : statOwners m s = true := by
  unfold statOwners InMsg.isBroken
  rw [short.resolve_right (Nat.not_lt_zero _)]
  rfl

/-- RSTR needs no reply place, but a message of its own and a decoder that is free (R162). -/
theorem State.decodeRstr_passedOver
    (h : s.flushing = true ∨ ∀ m, s.link.inbox.head? = some m → m.status = .inProgress ∨ m.code ≠ 0x01) : s.decodeRstr = s := by
  unfold State.decodeRstr
  cases oldest : s.oldestMessage with
  | none => rfl
  | some m =>
    obtain ⟨head, status, flushing⟩ := State.oldestMessage_some oldest
    rcases h with busy | other
    · cases flushing.symm.trans busy
    · exact if_neg ((other m head).resolve_left status)

end Refusals

/-- Settles O39: refusals by code and length, and the decodes that change nothing. -/
theorem unfitMessagesAreRefused : Obligations.UnfitMessagesAreRefused := by
  refine ⟨fun s m head => ⟨fun unknown => ?_, fun c code need row same short => ?_⟩, fun s c code row idle => ?_, fun s idle => ?_⟩
  · refine congrArg Host.Outcome.next (State.live_decode_taken head ?_ rfl)
    rw [Bool.not_eq_true', ← Bool.not_eq_true, List.contains_iff_mem]
    exact unknown
  · simp only [List.mem_cons, Prod.mk.injEq, List.not_mem_nil, or_false] at row
    rcases row with ⟨rfl, rfl, rfl⟩ | ⟨rfl, rfl, rfl⟩ | ⟨rfl, rfl, rfl⟩ | ⟨rfl, rfl, rfl⟩ | ⟨rfl, rfl, rfl⟩ | ⟨rfl, rfl, rfl⟩ |
      ⟨rfl, rfl, rfl⟩ | ⟨rfl, rfl, rfl⟩ | ⟨rfl, rfl, rfl⟩
    case inr.inr.inr.inl => exact exec_short head same (statOwners_of_short short) short rfl
    all_goals exact exec_short head same rfl short rfl
  · have other (notRstr : c ≠ .rstr) : s.passesOver fun m => m.code == code := by
      rcases idle with ⟨full, -⟩ | busy | different
      · exact Or.inl full
      · exact Or.inr (Or.inl busy)
      · exact Or.inr (Or.inr fun m head => (different m head).imp_right beq_eq_false_iff_ne.mpr)
    simp only [List.mem_cons, Prod.mk.injEq, List.not_mem_nil, or_false] at row
    rcases row with ⟨rfl, rfl⟩ | row
    · exact congrArg Host.Outcome.next (State.live_same (State.decodeRstr_passedOver (idle.resolve_left fun full => full.2 rfl)))
    · rcases row with ⟨rfl, rfl⟩ | ⟨rfl, rfl⟩ | ⟨rfl, rfl⟩ | ⟨rfl, rfl⟩ | ⟨rfl, rfl⟩ | ⟨rfl, rfl⟩ | ⟨rfl, rfl⟩ | ⟨rfl, rfl⟩ | ⟨rfl, rfl⟩ |
        ⟨rfl, rfl⟩ | ⟨rfl, rfl⟩ | ⟨rfl, rfl⟩ | ⟨rfl, rfl⟩ | ⟨rfl, rfl⟩ | ⟨rfl, rfl⟩ | ⟨rfl, rfl⟩ | ⟨rfl, rfl⟩ | ⟨rfl, rfl⟩
      all_goals exact exec_passedOver rfl (other (by decide))
  · refine exec_passedOver rfl (idle.imp_right (Or.imp_right fun known m head => (known m head).imp_right fun mem => ?_))
    rw [Bool.not_eq_false', List.contains_iff_mem]
    exact mem

end Sys2Proof.Machine
end

section
/-! Routing and the Route Table (R119 to R122). -/

namespace Sys2Proof.Machine

section Route

variable {s : State} {p : Pick} {event : Nat} {role : Role} {before after : List Handed} {e : RouteEntry}

/-- The first item that is no report, with reports alone before it. -/
theorem firstPick_split {x : Handed} (reports : ∀ y ∈ before, ∃ q r, y = .report q r) (other : ∀ q r, x ≠ .report q r) :
    firstPick (before ++ x :: after) = some (before, x, after) := by
  induction before with
  | nil =>
    cases x with
    | report q r => exact absurd rfl (other q r)
    | toRoute p event role => rfl
    | routed q r => rfl
  | cons y before ih =>
    obtain ⟨⟨q, r, rfl⟩, rest⟩ := List.forall_mem_cons.mp reports
    rw [List.cons_append, firstPick, ih rest]
    rfl

theorem State.routePick_of (outbox : s.outbox = before ++ .toRoute p event role :: after)
    (reports : ∀ x ∈ before, ∃ q r, x = .report q r) : s.routePick = { s with
      outbox := before ++ (s.routeOne p event role).1 ++ after, counters := (s.routeOne p event role).2 } := by
  unfold State.routePick
  rw [outbox, firstPick_split reports (fun q r => Handed.noConfusion)]

theorem State.routePick_waits {q : Fin 4} {r : PickReport} (outbox : s.outbox = before ++ .routed q r :: after)
    (reports : ∀ x ∈ before, ∃ q r, x = .report q r) : s.routePick = s := by
  unfold State.routePick
  rw [outbox, firstPick_split reports (fun q r => Handed.noConfusion)]

/-- The class index (R119). -/
theorem classIndex_eq (p : Pick) : classIndex p = 16 * p.grade +
    4 * (if p.kind = .secondary then 3 else match p.phase with | .p => 0 | .s => 1 | .x => 2) +
    2 * (if p.kind = .signature then 1 else 0) + (if p.clipped = true then 1 else 0) := by
  have code : p.phase.code = match p.phase with | .p => 0 | .s => 1 | .x => 2 := by cases p.phase <;> rfl
  unfold classIndex classPhase bit
  rw [code]
  simp only [beq_iff_eq]

theorem State.routeFor_eq (entry : s.routes[classIndex p]? = some e) : s.routeFor (classIndex p) = e := by
  unfold State.routeFor
  rw [entry]
  rfl

theorem State.routeOne_discards (entry : s.routeFor (classIndex p) = e) (dest : e.dest = none) :
    s.routeOne p event role = ([], { s.counters with routeDiscards := ctr s.counters.routeDiscards 1 }) := by
  unfold State.routeOne
  dsimp only
  rw [entry, dest]

theorem State.routeOne_plain {q : Fin 4} (entry : s.routeFor (classIndex p) = e) (dest : e.dest = some q) (plain : e.attach = false) :
    s.routeOne p event role = ([.routed q ⟨p, event, role, .none⟩], s.counters) := by
  unfold State.routeOne
  dsimp only
  rw [entry, dest]
  dsimp only
  rw [plain]
  exact if_pos rfl

theorem State.routeOne_attached {q : Fin 4} (entry : s.routeFor (classIndex p) = e) (dest : e.dest = some q) (attach : e.attach = true) :
    s.routeOne p event role = if s.snips.lowestFree.isSome then ([.routed q ⟨p, event, role, .snippet⟩], s.counters)
      else ([.routed q ⟨p, event, role, .lost⟩], { s.counters with snippetLost := ctr s.counters.snippetLost 1 }) := by
  unfold State.routeOne
  dsimp only
  rw [entry, dest]
  dsimp only
  rw [attach, if_neg (by decide)]

end Route

/-! ## ROUT (R122) -/

/-- Entry bytes go to successive places from the first one on; those past the table are ignored. -/
theorem writeRoutes_get (routes : List RouteEntry) (i : Nat) (bs : List Byte) :
    (∀ k b, bs[k]? = some b → i + k < routes.length → (writeRoutes routes i bs)[i + k]? = some (routeOf b)) ∧
      ∀ j, j < i ∨ i + bs.length ≤ j → (writeRoutes routes i bs)[j]? = routes[j]? := by
  induction bs generalizing routes i with
  | nil => exact ⟨fun k b none => (nomatch none), fun j _ => rfl⟩
  | cons b bs ih =>
    obtain ⟨each, kept⟩ := ih (routes.set i (routeOf b)) (i + 1)
    rw [List.length_set] at each
    rw [writeRoutes, List.length_cons]
    refine ⟨fun k c at_ room => ?_, fun j out => ?_⟩
    · cases k with
      | zero =>
        cases at_
        exact (kept i (Or.inl (Nat.lt_succ_self i))).trans (List.getElem?_set_self room)
      | succ k =>
        have place : i + (k + 1) = i + 1 + k := by omega
        rw [place]
        exact each k c at_ (by omega)
    · rw [kept j (by omega)]
      exact List.getElem?_set_ne (by omega)

/-- Settles O40: the first pick by its Route Table entry, and the entries written. -/
theorem routingFollowsTheRouteTable : Obligations.RoutingFollowsTheRouteTable := by
  refine ⟨fun s high => ⟨?_, ?_⟩, ?_⟩
  · intro p event role before after e outbox reports entry
    have found : s.routeFor (classIndex p) = e := State.routeFor_eq (by rw [classIndex_eq]; exact entry)
    have routed : exec .routePick s = .next { s with
        outbox := before ++ (s.routeOne p event role).1 ++ after, counters := (s.routeOne p event role).2 } := by
      change Host.Outcome.next (s.live _) = _
      rw [State.live_high high, State.routePick_of outbox reports]
    rw [routed]
    refine ⟨fun dest => ?_, fun q dest => ⟨fun plain => ?_, fun attach free => ?_, fun attach full => ?_⟩⟩
    · rw [State.routeOne_discards found dest, List.append_nil]
      rfl
    · rw [State.routeOne_plain found dest plain, List.append_assoc]
      rfl
    · rw [State.routeOne_attached found dest attach, if_pos (s.snips.lowestFree_iff.mpr free), List.append_assoc]
      rfl
    · rw [State.routeOne_attached found dest attach,
        if_neg fun some => (s.snips.lowestFree_iff.mp some).elim full, List.append_assoc]
      rfl
  · intro before after q r outbox reports
    exact congrArg Host.Outcome.next (State.live_same (State.routePick_waits outbox reports))
  · intro s m head code size
    have taken := exec_settings (c := .rout) (take := takeRout) head code rfl
    rw [taken]
    refine ⟨fun empty => ?_, fun first entries body => ?_⟩
    · rw [takeRout, empty, ← code]
      rfl
    · have written : takeRout m s.popMessage = ackSettings m
          (decide (64 ≤ first.toNat) || decide (64 < min first.toNat 64 + entries.length)) (1 + entries.length)
          { s.popMessage with routes := writeRoutes s.routes (min first.toNat 64) entries } := by
        rw [takeRout, body]
        rfl
      obtain ⟨each, kept⟩ := writeRoutes_get s.routes (min first.toNat 64) entries
      refine ⟨writeRoutes s.routes (min first.toNat 64) entries, _, by rw [written, ackSettings, code], ?_,
        by rw [writeRoutes_length, size], fun k b at_ room => ?_, fun i out => ?_⟩
      · rw [Bool.or_eq_true, decide_eq_true_iff, decide_eq_true_iff]
        omega
      · have start : min first.toNat 64 = first.toNat := by omega
        rw [start] at each ⊢
        exact each k b at_ (by omega)
      · rcases Nat.lt_or_ge i 64 with inside | outside
        · exact kept i (by omega)
        · rw [List.getElem?_eq_none_iff.mpr (by rw [writeRoutes_length, size]; exact outside),
            List.getElem?_eq_none_iff.mpr (by rw [size]; exact outside)]

end Sys2Proof.Machine
end

section
/-! Credits, the emptying of a queue, and the hold timers (R127 to R132, R137, R192). -/

namespace Sys2Proof.Machine

/-! ## GRNT and QRST (R128, R137) -/

/-- The starvation test in words (R131). -/
theorem Queue.starves_iff (q : Queue) :
    q.starves = true ↔ q.ready = true ∧ q.records ≠ [] ∧ q.credits = 0 ∧ q.starved = false := by
  unfold Queue.starves
  simp only [Bool.and_eq_true, Bool.not_eq_true', List.isEmpty_eq_false_iff, beq_iff_eq, and_assoc]

/-- A queue with credit does not starve. -/
theorem State.putQueue_credited (s : State) (i : Fin 4) {q : Queue} (credit : q.credits ≠ 0) :
    s.putQueue i q = { s with queues := s.queues.set i q } := by
  rcases s.putQueue_cases i q with ⟨starves, -⟩ | ⟨-, put⟩
  · exact absurd (q.starves_iff.mp starves).2.2.1 credit
  · exact put

theorem mem_slotsOf (rs : List Record) (n : Fin 8) : n ∈ slotsOf rs ↔ ∃ k, Record.item n k ∈ rs := by
  induction rs with
  | nil => simp [slotsOf]
  | cons r rs ih => cases r <;> simp [slotsOf, ih, exists_or, eq_comm]

section Messages

variable {s : State} {m : InMsg} {i : Fin 4}

/-- A grant of at least one credit leaves the queue with credit, so it raises nothing (R128). -/
theorem takeGrnt_of_queue (named : m.at 0 = i.val) : takeGrnt m s = ({ s with
    queues := s.queues.set i ((s.queues.get i).grant (max 1 (m.at 1))) } : State).reply
      (.ackn m.code (decide (m.at 1 = 0 ∨ 255 < (s.queues.get i).credits + max 1 (m.at 1))) false 2) := by
  have credit : ((s.queues.get i).grant (max 1 (m.at 1))).credits ≠ 0 := by
    change min 255 ((s.queues.get i).credits + max 1 (m.at 1)) ≠ 0
    omega
  have clamped : (m.at 1 == 0 || decide (255 < (s.queues.get i).credits + max 1 (m.at 1))) =
      decide (m.at 1 = 0 ∨ 255 < (s.queues.get i).credits + max 1 (m.at 1)) := by
    rw [Bool.decide_or, beq_eq_decide]
  unfold takeGrnt
  rw [named, queueOf_val]
  dsimp only
  rw [State.putQueue_credited _ _ credit, clamped]

theorem takeQrst_of_queue (named : m.at 0 = i.val) : takeQrst m s = ({ s with
    queues := s.queues.set i (s.queues.get i).empty
    snips := { s.snips with slots := (s.freeSlots (slotsOf (s.queues.get i).records)).snips.slots } } : State).reply
      (.ackn m.code false false 1) := by
  unfold takeQrst
  rw [named, queueOf_val]
  dsimp only
  rw [State.freeSlots_eq]

theorem InMsg.at_one {a b : Byte} {rest : List Byte} (body : m.body = a :: b :: rest) : m.at 1 = b.toNat := by
  unfold InMsg.at
  rw [body]
  rfl

/-- GRNT, complete, naming a queue. -/
theorem exec_grnt (head : s.decodes m) (code : m.code = 0x12) (complete : m.status = .complete) {a b : Byte} {rest : List Byte}
    (body : m.body = a :: b :: rest) (named : a.toNat = i.val) : exec .grnt s = .next (({ s.popMessage with
      queues := s.queues.set i ((s.queues.get i).grant (max 1 b.toNat)) } : State).reply
        (.ackn 0x12 (decide (b.toNat = 0 ∨ 255 < (s.queues.get i).credits + max 1 b.toNat)) false 2)) := by
  have taken : exec .grnt s = .next (takeGrnt m s.popMessage) := congrArg Host.Outcome.next
    (State.live_action head code rfl complete (by rw [body]; exact Nat.succ_le_succ (Nat.succ_le_succ (Nat.zero_le _))))
  rw [taken, takeGrnt_of_queue ((InMsg.at_zero body).trans named), InMsg.at_one body, code]
  rfl

end Messages

/-- Settles O44: the refusals, the grant, and the queue emptied. -/
theorem grantRaisesCreditsAndQrstEmpties : Obligations.GrantRaisesCreditsAndQrstEmpties := by
  intro s m head
  refine ⟨fun code => ⟨fun short => exec_short head code rfl short rfl, fun a b rest complete body => ⟨fun above => ?_, fun i named => ?_⟩⟩,
    fun code => ⟨fun short => exec_short (need := 1) head code rfl (short.imp_right fun none => by omega) rfl,
      fun a rest complete body => ⟨fun above => ?_, fun i named => ?_⟩⟩⟩
  · have taken : exec .grnt s = .next (takeGrnt m s.popMessage) := congrArg Host.Outcome.next
      (State.live_action head code rfl complete (by rw [body]; exact Nat.succ_le_succ (Nat.succ_le_succ (Nat.zero_le _))))
    rw [taken, takeGrnt, InMsg.at_zero body, queueOf_of_le above, code]
  · exact exec_grnt head code complete body named
  · have taken : exec .qrst s = .next (takeQrst m s.popMessage) := congrArg Host.Outcome.next
      (State.live_action head code rfl complete (by rw [body]; exact Nat.succ_le_succ (Nat.zero_le _)))
    rw [taken, takeQrst, InMsg.at_zero body, queueOf_of_le above, code]
  · have taken : exec .qrst s = .next (takeQrst m s.popMessage) := congrArg Host.Outcome.next
      (State.live_action head code rfl complete (by rw [body]; exact Nat.succ_le_succ (Nat.zero_le _)))
    intro x
    refine ⟨(s.popMessage.freeSlots (slotsOf x.records)).snips.slots, ?_, fun n => ?_⟩
    · rw [taken, takeQrst_of_queue ((InMsg.at_zero body).trans named), code]
      rfl
    · rw [State.freeSlots_get]
      exact ⟨fun named => if_pos ((mem_slotsOf _ n).mpr named),
        fun unnamed => if_neg fun mem => ((mem_slotsOf _ n).mp mem).elim unnamed⟩

/-! ## Hold timers (R129 to R132, R192) -/

section Timer

variable {s : State} {i : Fin 4} {x : Queue} {n : Nat}

theorem Queue.tick_expires (running : x.timer = .running n) (held : x.hold ≠ 0) (reached : x.hold ≤ min 10000 (n + 1)) :
    x.tick = { x with timer := .expired, expiry := true } := by
  have reached' : x.hold ≤ min (n + 1) Config.holdTop := by
    rw [min_comm]
    exact reached
  unfold Queue.tick
  rw [running]
  dsimp only
  rw [if_pos]
  simp [held, reached']

theorem Queue.tick_runs (running : x.timer = .running n) (short : x.hold = 0 ∨ min 10000 (n + 1) < x.hold) :
    x.tick = { x with timer := .running (min 10000 (n + 1)) } := by
  have short' : x.hold = 0 ∨ min (n + 1) Config.holdTop < x.hold := by
    rw [min_comm]
    exact short
  unfold Queue.tick
  rw [running]
  dsimp only
  rw [if_neg]
  · rw [min_comm]
  · rw [Bool.and_eq_true, decide_eq_true_iff, decide_eq_true_iff]
    omega

theorem Queue.tick_stands (still : ∀ n, x.timer ≠ .running n) : x.tick = x := by
  unfold Queue.tick
  split
  · rename_i n running
    exact absurd running (still n)
  · rfl

theorem exec_holdTimerExpiry (high : s.resetLow = false) : exec (.holdTimerExpiry i.val) s = .next (s.takeExpiry i) := by
  change Host.Outcome.next (s.live _) = _
  rw [State.live_high high, queueOf_val]

theorem State.takeExpiry_due (due : (s.queues.get i).expiry = true) : s.takeExpiry i =
    s.putQueue i { s.queues.get i with
      expiry := false, ready := (s.queues.get i).ready || !(s.queues.get i).records.isEmpty } := if_pos due

end Timer

section Orders

variable {s : State} {m : InMsg} {i : Fin 4} {b : Byte}

/-- A queue number as a byte. -/
theorem queueByte_toNat (i : Fin 4) : (BitVec.ofNat 8 i.val).toNat = i.val := by
  rw [BitVec.toNat_ofNat]
  exact Nat.mod_eq_of_lt (by omega)

/-- What a grant leaves of its queue and of the notices. -/
theorem exec_grnt_queue (head : s.decodes m) (code : m.code = 0x12) (complete : m.status = .complete)
    (body : m.body = [BitVec.ofNat 8 i.val, b]) : ∃ t, exec .grnt s = .next t ∧ t.resetLow = false ∧
      t.queues.get i = (s.queues.get i).grant (max 1 b.toNat) ∧ t.link.notices = s.link.notices := by
  refine ⟨_, exec_grnt head code complete body (queueByte_toNat i), head.1, Four.get_set_self _ _ _, ?_⟩
  simp

theorem Queue.grant_credits (q : Queue) (n : Nat) : 0 < (q.grant (max 1 n)).credits := by
  change 0 < min 255 (q.credits + max 1 n)
  omega

/-- An expiry taken by a queue that has credit makes it ready and raises nothing (R130). -/
theorem exec_holdTimerExpiry_credited (high : s.resetLow = false) (due : (s.queues.get i).expiry = true)
    (records : (s.queues.get i).records ≠ []) (credit : 0 < (s.queues.get i).credits) :
    ∃ u, exec (.holdTimerExpiry i.val) s = .next u ∧ u.queues.get i = { s.queues.get i with expiry := false, ready := true } ∧
      u.link.notices = s.link.notices := by
  have held : (s.queues.get i).records.isEmpty = false := List.isEmpty_eq_false_iff.mpr records
  rw [exec_holdTimerExpiry high, State.takeExpiry_due due, held, Bool.not_false, Bool.or_true,
    State.putQueue_credited _ _ (q := { s.queues.get i with expiry := false, ready := true }) (Nat.ne_of_gt credit)]
  exact ⟨_, rfl, Four.get_set_self _ _ _, rfl⟩

/-- An expiry taken by a queue without credit begins a starvation episode (R131). -/
theorem exec_holdTimerExpiry_starving (high : s.resetLow = false) (due : (s.queues.get i).expiry = true)
    (records : (s.queues.get i).records ≠ []) (credits : (s.queues.get i).credits = 0) (fed : (s.queues.get i).starved = false) :
    exec (.holdTimerExpiry i.val) s = .next { s with
      queues := s.queues.set i { s.queues.get i with expiry := false, ready := true, starved := true }
      link := { s.link with notices := raiseNotice s.link.notices (.starved i) } } := by
  have held : (s.queues.get i).records.isEmpty = false := List.isEmpty_eq_false_iff.mpr records
  rw [exec_holdTimerExpiry high, State.takeExpiry_due due, held, Bool.not_false, Bool.or_true]
  rcases s.putQueue_cases i { s.queues.get i with expiry := false, ready := true } with ⟨-, put⟩ | ⟨fine, -⟩
  · rw [put]
  · have starves := (Queue.starves_iff { s.queues.get i with expiry := false, ready := true }).mpr ⟨rfl, records, credits, fed⟩
    cases fine.symm.trans starves

end Orders

/-- Settles O45: the tick, the expiry taken, and the two orders of grant and expiry. -/
theorem holdTimersRunInLocalTime : Obligations.HoldTimersRunInLocalTime := by
  refine ⟨fun s high => ⟨s.queues.map Queue.tick, ?_, fun i => ?_⟩, fun s i high => ?_, fun s q above => ?_, ?_⟩
  · change Host.Outcome.next (s.live _) = _
    rw [State.live_high high]
  · intro x
    rw [Four.get_map]
    exact ⟨fun n => Queue.tick_expires, fun n => Queue.tick_runs, Queue.tick_stands⟩
  · rw [exec_holdTimerExpiry high]
    exact ⟨fun due => congrArg Host.Outcome.next (State.takeExpiry_due due),
      fun none => congrArg Host.Outcome.next (if_neg (by rw [none]; decide))⟩
  · exact congrArg Host.Outcome.next (State.live_same (by rw [queueOf_of_le above]))
  · intro s m i b head code complete body due records credits idle fed
    constructor
    · obtain ⟨t, granted, high, queue, notices⟩ := exec_grnt_queue head code complete body
      obtain ⟨u, taken, after, notices'⟩ := exec_holdTimerExpiry_credited high (by rw [queue]; exact due)
        (by rw [queue]; exact records) (by rw [queue]; exact Queue.grant_credits _ _)
      refine ⟨t, u, granted, taken, by rw [after], ?_, ?_, notices'.trans notices⟩
      · rw [after, queue]
        exact Queue.grant_credits _ _
      · rw [after, queue]
        rfl
    · have taken := exec_holdTimerExpiry_starving head.1 due records credits fed
      obtain ⟨t, state⟩ : ∃ t, { s with
          queues := s.queues.set i { s.queues.get i with expiry := false, ready := true, starved := true }
          link := { s.link with notices := raiseNotice s.link.notices (.starved i) } } = t := ⟨_, rfl⟩
      rw [state] at taken
      have headLater : t.decodes m := by
        rw [← state]
        exact head
      have queueThen : t.queues.get i = { s.queues.get i with expiry := false, ready := true, starved := true } := by
        rw [← state]
        exact Four.get_set_self _ _ _
      obtain ⟨u, granted, -, queue, notices⟩ := exec_grnt_queue headLater code complete body
      refine ⟨t, u, taken, granted, by rw [queueThen], ?_, ?_, ?_, ?_⟩
      · rw [queue, queueThen]
        rfl
      · rw [queue]
        exact Queue.grant_credits _ _
      · rw [queue]
        rfl
      · rw [notices, ← state]

end Sys2Proof.Machine
end

section
/-! The victims of one queue, and arrivals with room or none (R124 to R126, R129 to R131, R142). -/

namespace Sys2Proof.Machine

/-! ## Victims (R125) -/

section Victims

variable {n : Nat} {rs stay gone : List Record} {k : Nat}

/-- The victims of a queue are the unsent records of its first `k`, `n` of them or as many as there are; no PICK leaves without the snippet
item directly behind it, which alone makes one too many. -/
structure Evicts (n : Nat) (rs stay gone : List Record) (k : Nat) : Prop where
  within : k ≤ rs.length
  goneEq : gone = (rs.take k).filter Record.unsent
  stayEq : stay = (rs.take k).filter (fun r => !r.unsent) ++ rs.drop k
  few : gone.length ≤ n + 1
  zero : n = 0 → gone = []
  all : gone.length < n → k = rs.length
  whole : ∀ i p sl m, rs[i]? = some (.pick p) → rs[i + 1]? = some (.item sl m) → k ≠ i + 1
  pair : gone.length = n + 1 → ∃ pre p sl, gone = pre ++ [.pick p, .item sl 0]

theorem Evicts.none (rs : List Record) : Evicts 0 rs rs [] 0 where
  within := Nat.zero_le _
  goneEq := rfl
  stayEq := rfl
  few := Nat.zero_le _
  zero := fun _ => rfl
  all := fun less => absurd less (Nat.not_lt_zero _)
  whole := fun _ _ _ _ _ _ => (Nat.succ_ne_zero _).symm
  pair := fun one => absurd one (by decide)

theorem Evicts.empty (n : Nat) : Evicts n [] [] [] 0 where
  within := le_refl _
  goneEq := rfl
  stayEq := rfl
  few := Nat.zero_le _
  zero := fun _ => rfl
  all := fun _ => rfl
  whole := fun _ _ _ _ none => nomatch none
  pair := fun one => absurd one (Nat.succ_ne_zero _).symm

/-- One unsent record more in front leaves, unless it is a PICK whose item stays. -/
theorem Evicts.cons {r : Record} (h : Evicts n rs stay gone k) (unsent : r.unsent = true)
    (kept : ∀ p sl m rest, r = .pick p → rs = .item sl m :: rest → k ≠ 0) : Evicts (n + 1) (r :: rs) stay (r :: gone) (k + 1) where
  within := Nat.succ_le_succ h.within
  goneEq := by rw [List.take_succ_cons, List.filter_cons_of_pos unsent, ← h.goneEq]
  stayEq := by rw [List.take_succ_cons, List.filter_cons_of_neg (by rw [unsent]; decide), h.stayEq, List.drop_succ_cons]
  few := Nat.succ_le_succ h.few
  zero := fun zero => absurd zero (Nat.succ_ne_zero n)
  all := fun less => congrArg (· + 1) (h.all (Nat.lt_of_succ_lt_succ less))
  whole := fun i p sl m pick item => by
    cases i with
    | zero =>
      obtain ⟨rest, split⟩ : ∃ rest, rs = .item sl m :: rest := by
        cases rs with
        | nil => cases item
        | cons x rest =>
          cases item
          exact ⟨rest, rfl⟩
      cases pick
      exact fun one => kept p sl m rest rfl split (Nat.succ.inj one)
    | succ i => exact fun same => h.whole i p sl m pick item (Nat.succ.inj same)
  pair := fun one => by
    obtain ⟨pre, p, sl, split⟩ := h.pair (Nat.succ.inj one)
    exact ⟨r :: pre, p, sl, by rw [split]; rfl⟩

/-- A PICK and its item leave together for one record lacking. -/
theorem Evicts.both (p : PickReport) (sl : Fin 8) (rs : List Record) : Evicts 1 (.pick p :: .item sl 0 :: rs) rs [.pick p, .item sl 0] 2 where
  within := Nat.succ_le_succ (Nat.succ_le_succ (Nat.zero_le _))
  goneEq := rfl
  stayEq := rfl
  few := le_refl _
  zero := fun zero => absurd zero (by decide)
  all := fun less => absurd less (by simp)
  whole := fun i q sl m pick item => by
    cases i with
    | zero => decide
    | succ i =>
      cases i with
      | zero => cases pick
      | succ i => omega
  pair := fun _ => ⟨[], p, sl, rfl⟩

/-- The item that has sent a segment stays at the head. -/
theorem Evicts.keep {sl : Fin 8} {m : Nat} (h : Evicts (n + 1) rs stay gone k) (sent : m ≠ 0) :
    Evicts (n + 1) (.item sl m :: rs) (.item sl m :: stay) gone (k + 1) where
  within := Nat.succ_le_succ h.within
  goneEq := by rw [List.take_succ_cons, List.filter_cons_of_neg (by simpa [Record.unsent] using sent), ← h.goneEq]
  stayEq := by
    rw [List.take_succ_cons, List.filter_cons_of_pos (by simpa [Record.unsent] using sent), h.stayEq, List.drop_succ_cons]
    rfl
  few := h.few
  zero := fun zero => absurd zero (Nat.succ_ne_zero n)
  all := fun less => congrArg (· + 1) (h.all less)
  whole := fun i p sl m pick item => by
    cases i with
    | zero => cases pick
    | succ i => exact fun same => h.whole i p sl m pick item (Nat.succ.inj same)
  pair := h.pair

theorem unsent_of_tail {r : Record} (h : ∀ x ∈ (r :: rs).tail, x.unsent = true) : ∀ x ∈ rs.tail, x.unsent = true :=
  fun x mem => h x (List.mem_of_mem_tail mem)

theorem evictFrom_evicts (n : Nat) (rs : List Record) (tail : ∀ r ∈ rs.tail, r.unsent = true) :
    ∃ k, Evicts n rs (evictFrom n rs).1 (evictFrom n rs).2 k := by
  fun_induction evictFrom n rs with
  | case1 rs => exact ⟨0, Evicts.none rs⟩
  | case2 n => exact ⟨0, Evicts.empty _⟩
  | case3 n p sl k rs stay out found ih =>
    obtain ⟨j, inner⟩ := ih (unsent_of_tail (unsent_of_tail tail))
    have item : k = 0 := by simpa [Record.unsent] using tail (.item sl k) List.mem_cons_self
    subst item
    rw [found] at inner
    cases n with
    | zero =>
      rw [Nat.zero_sub, evictFrom_zero] at found
      cases found
      exact ⟨2, Evicts.both p sl rs⟩
    | succ n =>
      exact ⟨j + 2, (inner.cons (r := .item sl 0) rfl fun _ _ _ _ other => nomatch other).cons (r := .pick p) rfl
        fun _ _ _ _ _ _ => Nat.succ_ne_zero j⟩
  | case4 n p rs plain stay out found ih =>
    obtain ⟨j, inner⟩ := ih (unsent_of_tail tail)
    rw [found] at inner
    exact ⟨j + 1, inner.cons (r := .pick p) rfl fun _ sl m rest _ split => absurd split (plain sl m rest)⟩
  | case5 n r rs stay out found ih =>
    obtain ⟨j, inner⟩ := ih (unsent_of_tail tail)
    rw [found] at inner
    exact ⟨j + 1, inner.cons (r := .evnt r) rfl fun _ _ _ _ other => nomatch other⟩
  | case6 n sl rs stay out found ih =>
    obtain ⟨j, inner⟩ := ih (unsent_of_tail tail)
    rw [found] at inner
    exact ⟨j + 1, inner.cons (r := .item sl 0) rfl fun _ _ _ _ other => nomatch other⟩
  | case7 n sl k rs sent stay out found ih =>
    obtain ⟨j, inner⟩ := ih (unsent_of_tail tail)
    rw [found] at inner
    exact ⟨j + 1, inner.keep sent⟩

/-- All unsent records of a queue can be freed (R125). -/
theorem freeable_eq (tail : ∀ r ∈ rs.tail, r.unsent = true) : freeable rs = rs.countP Record.unsent := by
  obtain ⟨k, evicts⟩ := evictFrom_evicts rs.length rs tail
  have everything : k = rs.length := by
    by_contra part
    refine part (evicts.all ?_)
    have most : ((rs.take k).filter Record.unsent).length ≤ (rs.take k).length := List.length_filter_le _ _
    rw [← evicts.goneEq, List.length_take] at most
    have within := evicts.within
    omega
  unfold freeable
  rw [evicts.goneEq, everything, List.take_length, List.countP_eq_length_filter]

end Victims

/-! ## The pool (R123, R125) -/

section Pool

variable {s : State} {i : Fin 4}

/-- The records held, queue by queue. -/
def State.held (s : State) : Nat := (s.queues.get 0).records.length + (s.queues.get 1).records.length +
  (s.queues.get 2).records.length + (s.queues.get 3).records.length

/-- The records that an arrival for queue `i` may push out (R125). -/
def State.evictable (s : State) (i j : Fin 4) : Nat := if i < j then (s.queues.get j).records.countP Record.unsent else 0

def State.victims (s : State) (i : Fin 4) : Nat := s.evictable i 3 + s.evictable i 2 + s.evictable i 1

theorem State.poolHeld_held (s : State) : s.poolHeld = s.held := by
  simp only [State.poolHeld, State.held, Four.map, Four.toList, Four.get, List.sum_cons, List.sum_nil]
  omega

theorem State.victims_eq (sound : ∀ j, (s.queues.get j).sound) (i : Fin 4) :
    ((victimQueues i).map fun j => freeable (s.queues.get j).records).sum = s.victims i := by
  have each (j : Fin 4) : freeable (s.queues.get j).records = (s.queues.get j).records.countP Record.unsent :=
    freeable_eq ((Queue.sound_iff _).mp (sound j)).1.2.2.2.2.2
  simp only [each]
  unfold State.victims State.evictable victimQueues
  fin_cases i <;> simp [List.filter]
  omega

theorem State.makeRoom_here {n : Nat} (room : s.held + n ≤ 96) : s.makeRoom i n = some s := by
  rw [← State.poolHeld_held] at room
  rcases s.makeRoom_cases i n with ⟨-, made⟩ | ⟨short, -⟩ | ⟨short, -⟩
  · exact made
  · exact absurd room (Nat.not_le.mpr short)
  · exact absurd room (Nat.not_le.mpr short)

theorem State.makeRoom_lost {n : Nat} (sound : ∀ j, (s.queues.get j).sound) (lack : s.victims i < s.held + n - 96) :
    s.makeRoom i n = none := by
  rw [← State.poolHeld_held, ← State.victims_eq sound] at lack
  rcases s.makeRoom_cases i n with ⟨room, -⟩ | ⟨-, enough, -⟩ | ⟨-, -, lost⟩
  · omega
  · omega
  · exact lost

theorem State.makeRoom_some {n : Nat} (sound : ∀ j, (s.queues.get j).sound) (enough : s.held + n - 96 ≤ s.victims i) :
    ∃ u, s.makeRoom i n = some u := by
  rw [← State.poolHeld_held, ← State.victims_eq sound] at enough
  rcases s.makeRoom_cases i n with ⟨-, made⟩ | ⟨-, -, made⟩ | ⟨-, lack, -⟩
  · exact ⟨s, made⟩
  · exact ⟨_, made⟩
  · omega

end Pool

/-- Queue `i` without the victims that `n` records ask for, their slots freed and the loss noted (R125, R126, R152). -/
def State.leave (s : State) (i : Fin 4) (n : Nat) : State :=
  (({ s with queues := s.queues.set i { s.queues.get i with records := (evictFrom n (s.queues.get i).records).1 } } : State).freeSlots
    (slotsOf (evictFrom n (s.queues.get i).records).2)).loseOn i (evictFrom n (s.queues.get i).records).2.length

theorem State.evictQueue_leave {s : State} {i : Fin 4} {n : Nat} (some : (evictFrom n (s.queues.get i).records).2 ≠ []) :
    s.evictQueue i n = (s.leave i n).putQueue i ((s.leave i n).queues.get i).settle := by
  have leaves : ¬(evictFrom n (s.queues.get i).records).2.isEmpty = true := by
    rw [List.isEmpty_iff]
    exact some
  exact if_neg leaves

/-! ## The outbox plays no part in making room -/

section Outbox

variable (s : State) (o : List Handed)

/-- The outbox replaced. -/
def State.putOutbox : State := { s with outbox := o }

theorem State.freeSlots_putOutbox (ns : List (Fin 8)) : (s.putOutbox o).freeSlots ns = (s.freeSlots ns).putOutbox o := by
  unfold State.freeSlots
  induction ns generalizing s with
  | nil => rfl
  | cons n ns ih => exact ih (s.freeSlot n)

theorem State.loseOn_putOutbox (i : Fin 4) (k : Nat) : (s.putOutbox o).loseOn i k = (s.loseOn i k).putOutbox o := by
  by_cases none : k = 0
  · rw [none]
    rfl
  · rw [State.loseOn_eq _ i k none, State.loseOn_eq _ i k none]
    rfl

theorem State.putQueue_putOutbox (i : Fin 4) (q : Queue) : (s.putOutbox o).putQueue i q = (s.putQueue i q).putOutbox o := by
  unfold State.putQueue
  cases q.starves <;> rfl

theorem State.evictQueue_putOutbox (i : Fin 4) (n : Nat) : (s.putOutbox o).evictQueue i n = (s.evictQueue i n).putOutbox o := by
  by_cases none : (evictFrom n (s.queues.get i).records).2 = []
  · rw [State.evictQueue_none s i n none, State.evictQueue_none (s.putOutbox o) i n (by exact none)]
  · have leave : (s.putOutbox o).leave i n = (s.leave i n).putOutbox o := by
      unfold State.leave
      rw [← State.loseOn_putOutbox, ← State.freeSlots_putOutbox]
      rfl
    rw [State.evictQueue_leave none, State.evictQueue_leave (by exact none), leave, ← State.putQueue_putOutbox]
    rfl

theorem State.evictAll_putOutbox (is : List (Fin 4)) (lack : Nat) : (s.putOutbox o).evictAll is lack = (s.evictAll is lack).putOutbox o := by
  induction is generalizing s lack with
  | nil => rfl
  | cons i is ih =>
    unfold State.evictAll
    dsimp only
    rw [State.evictQueue_putOutbox, ih]
    rfl

theorem State.makeRoom_putOutbox (i : Fin 4) (n : Nat) :
    (s.putOutbox o).makeRoom i n = (s.makeRoom i n).map fun u => u.putOutbox o := by
  rcases s.makeRoom_cases i n with ⟨room, made⟩ | ⟨short, enough, made⟩ | ⟨short, lack, made⟩
  · rw [made]
    rcases (s.putOutbox o).makeRoom_cases i n with ⟨-, made'⟩ | ⟨short', -⟩ | ⟨short', -⟩
    · exact made'
    · exact absurd room (Nat.not_le.mpr short')
    · exact absurd room (Nat.not_le.mpr short')
  · rw [made]
    rcases (s.putOutbox o).makeRoom_cases i n with ⟨room', -⟩ | ⟨-, -, made'⟩ | ⟨-, lack', -⟩
    · exact absurd room' (Nat.not_le.mpr short)
    · rw [made', State.evictAll_putOutbox]
      rfl
    · exact absurd lack' (Nat.not_lt.mpr enough)
  · rw [made]
    rcases (s.putOutbox o).makeRoom_cases i n with ⟨room', -⟩ | ⟨-, enough', -⟩ | ⟨-, -, made'⟩
    · exact absurd room' (Nat.not_le.mpr short)
    · exact absurd enough' (Nat.not_le.mpr lack)
    · exact made'

end Outbox

/-! ## The arrival -/

section Arrival

variable {s : State} {h : Handed} {rest : List Handed} {i : Fin 4} {u : State}

/-- The arrival is one record: a report, or a pick without a snippet item. -/
def Handed.isOne (h : Handed) (i : Fin 4) (rec : Record) : Prop :=
  (∃ r, h = .report i r ∧ rec = .evnt r) ∨ ∃ r, h = .routed i r ∧ r.mark ≠ .snippet ∧ rec = .pick r

theorem exec_queueArrival_one {rec : Record} (high : s.resetLow = false) (outbox : s.outbox = h :: rest) (one : h.isOne i rec) :
    exec .queueArrival s = .next ((s.putOutbox rest).arriveOne i rec) := by
  change execQueueArrival s = _
  unfold execQueueArrival
  rw [if_neg (by rw [high]; decide), outbox]
  rcases one with ⟨r, rfl, rfl⟩ | ⟨r, rfl, plain, rfl⟩
  · rfl
  · exact if_neg plain

theorem exec_queueArrival_snippet {r : PickReport} (high : s.resetLow = false) (outbox : s.outbox = .routed i r :: rest)
    (marked : r.mark = .snippet) :
    exec .queueArrival s = if s.slotWaits i r then .next s else (s.putOutbox rest).arriveSnippet i r := by
  change execQueueArrival s = _
  unfold execQueueArrival
  rw [if_neg (by rw [high]; decide), outbox]
  exact if_pos marked

theorem exec_queueArrival_none (high : s.resetLow = false)
    (none : ∀ q rest, (∀ r, s.outbox ≠ .report q r :: rest) ∧ ∀ r, s.outbox ≠ .routed q r :: rest) : exec .queueArrival s = .next s := by
  change execQueueArrival s = _
  unfold execQueueArrival
  rw [if_neg (by rw [high]; decide)]
  cases outbox : s.outbox with
  | nil => rfl
  | cons h rest =>
    cases h with
    | report q r => exact absurd outbox ((none q rest).1 r)
    | routed q r => exact absurd outbox ((none q rest).2 r)
    | toRoute p event role => rfl

theorem State.arriveOne_room {rec : Record} (room : s.makeRoom i 1 = some u) :
    (s.putOutbox rest).arriveOne i rec = (u.putOutbox rest).putQueue i ((u.queues.get i).accept [rec]) := by
  unfold State.arriveOne
  rw [State.makeRoom_putOutbox, room]
  rfl

theorem State.arriveOne_lost {rec : Record} (lost : s.makeRoom i 1 = none) :
    (s.putOutbox rest).arriveOne i rec = (s.putOutbox rest).loseOn i 1 := by
  unfold State.arriveOne
  rw [State.makeRoom_putOutbox, lost]
  rfl

theorem State.arriveSnippet_room {r : PickReport} {n : Fin 8} (room : s.makeRoom i 2 = some u) (free : u.snips.lowestFree = some n) :
    (s.putOutbox rest).arriveSnippet i r =
      .next (((u.putOutbox rest).takeSlot n r.pick).putQueue i ((u.queues.get i).accept [.pick r, .item n 0])) := by
  unfold State.arriveSnippet
  rw [State.makeRoom_putOutbox, room]
  dsimp only [Option.map_some]
  rw [show (u.putOutbox rest).snips.lowestFree = some n from free]
  have queues : ((u.putOutbox rest).takeSlot n r.pick).queues = u.queues := by
    obtain ⟨k, taken⟩ := State.takeSlot_eq (u.putOutbox rest) n r.pick
    rw [taken]
    rfl
  dsimp only
  unfold State.accept
  rw [queues]

theorem State.arriveSnippet_fault {r : PickReport} (room : s.makeRoom i 2 = some u) (none : u.snips.lowestFree = none) :
    (s.putOutbox rest).arriveSnippet i r = .fault .snippetSlotMissing := by
  unfold State.arriveSnippet
  rw [State.makeRoom_putOutbox, room]
  dsimp only [Option.map_some]
  rw [show (u.putOutbox rest).snips.lowestFree = Option.none from none]

theorem State.arriveSnippet_lost {r : PickReport} (lost : s.makeRoom i 2 = none) :
    (s.putOutbox rest).arriveSnippet i r = .next ((s.putOutbox rest).loseOn i 2) := by
  unfold State.arriveSnippet
  rw [State.makeRoom_putOutbox, lost]
  rfl

theorem State.slotWaits_of {r : PickReport} (room : s.makeRoom i 2 = some u)
    (held : ∃ g, s.snips.feed.signals.head? = some g ∧ g.after ≤ r.pick.onset.idx) : s.slotWaits i r = true := by
  unfold State.slotWaits
  rw [(s.snips.feed.holdsBack_iff _).mpr held, room]
  rfl

theorem State.not_slotWaits {r : PickReport} (free : ∀ g, s.snips.feed.signals.head? = some g → r.pick.onset.idx < g.after) :
    ¬s.slotWaits i r = true := by
  unfold State.slotWaits
  rw [Bool.and_eq_true]
  exact fun both => Feed.not_holdsBack free both.1

/-- Records at the tail of a queue (R124, R129, R130). -/
theorem Queue.accept_eq (x : Queue) {rs : List Record} (some : rs ≠ []) : x.accept rs = { x with
    records := x.records ++ rs
    timer := if x.records = [] then .running 0 else x.timer
    expiry := if x.records = [] then false else x.expiry
    ready := x.ready || decide (x.batch ≤ x.records.length + rs.length ∨ x.hold = 0) } := by
  have nonempty : (x.records ++ rs).isEmpty = false := List.isEmpty_eq_false_iff.mpr fun none => some (List.append_eq_nil_iff.mp none).2
  unfold Queue.accept Queue.makeReady
  dsimp only
  rw [nonempty, Bool.not_false, Bool.and_true, List.length_append, Bool.decide_or, beq_eq_decide]
  simp only [List.isEmpty_iff]

end Arrival

/-- The lowest FREE slot is FREE, and no lower one is (R142). -/
theorem SnippetStore.lowestFree_eq_some (st : SnippetStore) (n : Fin 8) : st.lowestFree = some n ↔
    (st.slots.get n).state = .free ∧ ∀ k, k < n → (st.slots.get k).state ≠ .free := by
  have place (j : Nat) (inside : j < slotNumbers.length) : slotNumbers[j] = ⟨j, inside⟩ := by
    have each : ∀ k : Fin 8, slotNumbers[k.val]'k.isLt = k := by decide
    exact each ⟨j, inside⟩
  unfold SnippetStore.lowestFree
  rw [List.find?_eq_some_iff_getElem, beq_iff_eq]
  refine and_congr_right fun free => ⟨fun ⟨j, inside, is, below⟩ k less => ?_, fun below => ⟨n.val, n.isLt, place n.val n.isLt, fun j less => ?_⟩⟩
  · have number : j = n.val := by
      rw [← is, place j inside]
    have lower := below k.val (by rw [number]; exact less)
    rw [place, Bool.not_eq_true', beq_eq_false_iff_ne] at lower
    exact lower
  · rw [place, Bool.not_eq_true', beq_eq_false_iff_ne]
    exact below _ less

/-- Settles O41: the queue put back with its test, and the arrival by room and slots. -/
theorem arrivalIsAdmittedOrLost : Obligations.ArrivalIsAdmittedOrLost := by
  refine ⟨fun s i x => ?_, fun s high none => exec_queueArrival_none high none, ?_⟩
  · unfold State.putQueue
    exact if_congr x.starves_iff rfl rfl
  · intro s h rest i high outbox x with_ evictable victims held lost
    have accepted (rs : List Record) (some : rs ≠ []) : x.accept rs = with_ rs := x.accept_eq some
    refine ⟨fun rec one => ?_, fun r routed marked => ?_⟩
    · rw [exec_queueArrival_one high outbox one]
      refine ⟨fun room => ?_, fun _ sound lack => ?_⟩
      · rw [State.arriveOne_room (State.makeRoom_here room), accepted _ (by simp)]
        rfl
      · rw [State.arriveOne_lost (State.makeRoom_lost sound lack), State.loseOn_eq _ i 1 Nat.one_ne_zero]
        rfl
    · subst routed
      rw [exec_queueArrival_snippet high outbox marked]
      refine ⟨fun room held => ?_, fun room before => ⟨fun n free lowest => ?_, fun full => ?_⟩, fun _ sound lack => ?_⟩
      · exact if_pos (State.slotWaits_of (State.makeRoom_here room) held)
      · rw [if_neg (State.not_slotWaits before), State.arriveSnippet_room (State.makeRoom_here room)
          ((SnippetStore.lowestFree_eq_some _ n).mpr ⟨free, lowest⟩), accepted _ (by simp)]
        rfl
      · rw [if_neg (State.not_slotWaits before), State.arriveSnippet_fault (State.makeRoom_here room)]
        rw [← Option.not_isSome_iff_eq_none, SnippetStore.lowestFree_iff]
        exact fun ⟨n, free⟩ => full n free
      · have none := State.makeRoom_lost sound lack
        rw [if_neg (by rw [State.slotWaits, none, Option.isSome_none, Bool.and_false]; decide), State.arriveSnippet_lost none,
          State.loseOn_eq _ i 2 (by decide)]
        rfl

end Sys2Proof.Machine
end

section
/-! Eviction over several queues (R125, R126, R129, R130, R152). -/

namespace Sys2Proof.Machine

/-! ## One queue -/

section One

variable {s : State} {i : Fin 4} {n : Nat}

/-- A queue that did not starve does not begin to when it loses records. -/
theorem Queue.evicted_fed {q : Queue} {rs : List Record} (fed : q.starves = false) (sub : rs.Sublist q.records) :
    (q.evicted rs).starves = false := by
  rw [← Bool.not_eq_true, Queue.starves_iff]
  rintro ⟨ready, records, credits, unstarved⟩
  unfold Queue.evicted at ready records credits unstarved
  rw [Queue.settle_eq] at ready records credits unstarved
  have some : rs ≠ [] := records
  dsimp only at ready credits unstarved
  rw [if_neg some] at ready
  have starves : q.starves = true := q.starves_iff.mpr ⟨ready, fun none => some (List.sublist_nil.mp (none ▸ sub)), credits, unstarved⟩
  cases fed.symm.trans starves

/-- The loss counters after `k` losses on queue `i` (R126). -/
def State.lossesAfter (s : State) (i : Fin 4) (k : Nat) : Four Nat :=
  s.counters.poolLost.set i (min 4294967295 (s.counters.poolLost.get i + k))

/-- The notices after a loss on queue `i` (R126). -/
def State.lossNotices (s : State) (i : Fin 4) : List PendingNotice :=
  if (s.queues.get i).lossNote then s.link.notices else raiseNotice s.link.notices (.poolLoss i)

/-- Eviction from a queue that has victims. -/
theorem State.evictQueue_some (fed : (s.queues.get i).starves = false) (some : (evictFrom n (s.queues.get i).records).2 ≠ []) :
    s.evictQueue i n = { s with
      queues := s.queues.set i ((s.queues.get i).evicted (evictFrom n (s.queues.get i).records).1)
      snips := { s.snips with slots := (s.freeSlots (slotsOf (evictFrom n (s.queues.get i).records).2)).snips.slots }
      counters := { s.counters with poolLost := s.lossesAfter i (evictFrom n (s.queues.get i).records).2.length }
      link := { s.link with notices := s.lossNotices i } } := by
  have leave : s.leave i n = { s with
      queues := s.queues.set i { s.queues.get i with records := (evictFrom n (s.queues.get i).records).1, lossNote := true }
      snips := { s.snips with slots := (s.freeSlots (slotsOf (evictFrom n (s.queues.get i).records).2)).snips.slots }
      counters := { s.counters with poolLost := s.lossesAfter i (evictFrom n (s.queues.get i).records).2.length }
      link := { s.link with notices := s.lossNotices i } } := by
    unfold State.leave
    have slots : (({ s with queues := s.queues.set i { s.queues.get i with records := (evictFrom n (s.queues.get i).records).1 } } :
        State).freeSlots (slotsOf (evictFrom n (s.queues.get i).records).2)).snips.slots =
          (s.freeSlots (slotsOf (evictFrom n (s.queues.get i).records).2)).snips.slots :=
      Eight.ext_get fun k => by rw [State.freeSlots_get, State.freeSlots_get]
    rw [State.loseOn_eq _ i _ (by simpa using some), State.freeSlots_eq, slots]
    simp only [Four.get_set_self, Four.set_set]
    rfl
  have settled : ((s.leave i n).queues.get i).settle = (s.queues.get i).evicted (evictFrom n (s.queues.get i).records).1 := by
    rw [leave, Four.get_set_self]
    rfl
  rw [State.evictQueue_leave some, settled]
  rcases (s.leave i n).putQueue_cases i ((s.queues.get i).evicted (evictFrom n (s.queues.get i).records).1) with ⟨starves, -⟩ | ⟨-, put⟩
  · cases starves.symm.trans (Queue.evicted_fed fed (evictFrom_sublist n _))
  · rw [put, leave, Four.set_set]

/-- What a queue `x` is after losing the records `gone` (R125, R126, R129, R130). -/
def Queue.loses (x : Queue) (gone : List Record) (y : Queue) : Prop :=
  x.records.Perm (gone ++ y.records) ∧ y.records.Sublist x.records ∧ (gone = [] → y = x) ∧
    (gone ≠ [] → y = { x with
      records := y.records
      lossNote := true
      timer := if y.records = [] then .stopped else x.timer
      expiry := if y.records = [] then false else x.expiry
      ready := if y.records = [] then false else x.ready })

theorem evictFrom_perm {rs : List Record} (tail : ∀ r ∈ rs.tail, r.unsent = true) (n : Nat) :
    rs.Perm ((evictFrom n rs).2 ++ (evictFrom n rs).1) := by
  obtain ⟨k, evicts⟩ := evictFrom_evicts n rs tail
  rw [evicts.goneEq, evicts.stayEq, ← List.append_assoc]
  have parts := List.filter_append_perm Record.unsent (rs.take k)
  have whole := (parts.append_right (rs.drop k)).symm
  rwa [List.take_append_drop] at whole

theorem Queue.loses_nothing (x : Queue) : x.loses [] x :=
  ⟨List.Perm.refl _, List.Sublist.refl _, fun _ => rfl, fun some => absurd rfl some⟩

theorem Queue.loses_evicted {x : Queue} (tail : ∀ r ∈ x.records.tail, r.unsent = true) {n : Nat}
    (some : (evictFrom n x.records).2 ≠ []) : x.loses (evictFrom n x.records).2 (x.evicted (evictFrom n x.records).1) := by
  unfold Queue.evicted
  rw [Queue.settle_eq]
  exact ⟨evictFrom_perm tail n, evictFrom_sublist n _, fun none => absurd none some, fun _ => rfl⟩

end One

/-! ## Several queues, in the order of the list -/

/-- What leaves each queue when `lack` records are asked of several in turn, `records` being what they hold. -/
def goners (records : Fin 4 → List Record) : List (Fin 4) → Nat → Fin 4 → List Record
  | [], _, _ => []
  | i :: is, lack, j =>
    if j = i then (evictFrom lack (records i)).2 else goners records is (lack - (evictFrom lack (records i)).2.length) j

theorem goners_of_not_mem {records : Fin 4 → List Record} {is : List (Fin 4)} {j : Fin 4} (out : j ∉ is) (lack : Nat) :
    goners records is lack j = [] := by
  induction is generalizing lack with
  | nil => rfl
  | cons i is ih =>
    rw [List.mem_cons, not_or] at out
    obtain ⟨other, rest⟩ := out
    rw [goners, if_neg other]
    exact ih rest _

theorem goners_congr {records records' : Fin 4 → List Record} {is : List (Fin 4)} (same : ∀ j ∈ is, records' j = records j) (lack : Nat) :
    goners records' is lack = goners records is lack := by
  induction is generalizing lack with
  | nil => rfl
  | cons i is ih =>
    obtain ⟨first, rest⟩ := List.forall_mem_cons.mp same
    funext j
    rw [goners, goners, first, ih rest]

/-- A part that has lost the records `gone` from its queues, `order` being the order of the losses. -/
structure State.evicts (s u : State) (order : List (Fin 4)) (gone : Fin 4 → List Record) : Prop where
  frame : ∃ queues slots lost notices, u = { s with
    queues := queues
    snips := { s.snips with slots := slots }
    counters := { s.counters with poolLost := lost }
    link := { s.link with notices := notices } }
  queues : ∀ j, (s.queues.get j).loses (gone j) (u.queues.get j)
  losses : ∀ j, u.counters.poolLost.get j =
    if gone j = [] then s.counters.poolLost.get j else min 4294967295 (s.counters.poolLost.get j + (gone j).length)
  slots : ∀ k, u.snips.slots.get k = if ∃ j, k ∈ slotsOf (gone j) then .reset else s.snips.slots.get k
  notices : u.link.notices = (order.filter fun j => !(gone j).isEmpty && !(s.queues.get j).lossNote).foldl
    (fun ns j => raiseNotice ns (.poolLoss j)) s.link.notices

/-- One queue asked. -/
theorem State.evictQueue_evicts {s : State} (sound : ∀ j, (s.queues.get j).sound) (i : Fin 4) (n : Nat) :
    s.evicts (s.evictQueue i n) [i] fun j => if j = i then (evictFrom n (s.queues.get i).records).2 else [] := by
  have sane := (Queue.sound_iff _).mp (sound i)
  obtain ⟨gone, isGone⟩ : ∃ gone, (evictFrom n (s.queues.get i).records).2 = gone := ⟨_, rfl⟩
  by_cases none : (evictFrom n (s.queues.get i).records).2 = []
  · have nothing : (fun j => if j = i then (evictFrom n (s.queues.get i).records).2 else []) = fun _ => ([] : List Record) := by
      funext j
      rw [none, ite_self]
    rw [State.evictQueue_none s i n none, nothing]
    exact ⟨⟨s.queues, s.snips.slots, s.counters.poolLost, s.link.notices, rfl⟩, fun j => Queue.loses_nothing _, fun j => rfl,
      fun k => by simp [slotsOf], by simp⟩
  · rw [State.evictQueue_some sane.2 none]
    refine ⟨⟨_, _, _, _, rfl⟩, fun j => ?_, fun j => ?_, fun k => ?_, ?_⟩
    · rw [Four.get_set]
      by_cases same : j = i
      · subst same
        rw [if_pos rfl, if_pos rfl]
        exact Queue.loses_evicted sane.1.2.2.2.2.2 none
      · rw [if_neg same, if_neg same]
        exact Queue.loses_nothing _
    · change (s.lossesAfter i _).get j = _
      rw [State.lossesAfter, Four.get_set]
      by_cases same : j = i
      · subst same
        rw [if_pos rfl, if_pos rfl, if_neg none]
      · rw [if_neg same, if_neg same, if_pos rfl]
    · rw [State.freeSlots_get]
      refine if_congr ⟨fun mem => ⟨i, by rw [if_pos rfl]; exact mem⟩, fun ⟨j, mem⟩ => ?_⟩ rfl rfl
      split at mem
      · exact mem
      · cases mem
    · change s.lossNotices i = _
      rw [State.lossNotices, List.filter_cons, List.filter_nil, if_pos rfl]
      have some : (evictFrom n (s.queues.get i).records).2.isEmpty = false := List.isEmpty_eq_false_iff.mpr none
      rw [some]
      cases (s.queues.get i).lossNote <;> rfl

/-- Losses of two sets of queues, one after the other. -/
theorem State.evicts_trans {s u v : State} {order order' : List (Fin 4)} {gone gone' : Fin 4 → List Record}
    (first : s.evicts u order gone) (second : u.evicts v order' gone') (apart : ∀ j, gone j = [] ∨ gone' j = [])
    (elsewhere : ∀ j ∈ order, gone' j = []) (elsewhere' : ∀ j ∈ order', gone j = []) :
    s.evicts v (order ++ order') fun j => gone j ++ gone' j := by
  obtain ⟨⟨q, sl, l, ns, frame⟩, queues, losses, slots, notices⟩ := first
  obtain ⟨⟨q', sl', l', ns', frame'⟩, queues', losses', slots', notices'⟩ := second
  have stands {j : Fin 4} (none : gone j = []) : u.queues.get j = s.queues.get j := (queues j).2.2.1 none
  refine ⟨⟨q', sl', l', ns', by rw [frame', frame]⟩, fun j => ?_, fun j => ?_, fun k => ?_, ?_⟩
  · rcases apart j with none | none
    · rw [none, List.nil_append, ← stands none]
      exact queues' j
    · rw [none, List.append_nil, (queues' j).2.2.1 none]
      exact queues j
  · rw [losses' j]
    rcases apart j with none | none
    · rw [none, List.nil_append, losses j, if_pos none]
    · rw [none, List.append_nil, if_pos rfl, losses j]
  · rw [slots' k, slots k]
    have both (j : Fin 4) : k ∈ slotsOf (gone j ++ gone' j) ↔ k ∈ slotsOf (gone j) ∨ k ∈ slotsOf (gone' j) := by
      rw [slotsOf_append, List.mem_append]
    simp only [both, exists_or]
    by_cases early : ∃ j, k ∈ slotsOf (gone j)
    · rw [if_pos early, if_pos (Or.inl early), ite_self]
    · rw [if_neg early]
      exact if_congr (by simp only [early, false_or]) rfl rfl
  · rw [notices', notices, List.filter_append, List.foldl_append]
    have early : order.filter (fun j => !(gone j ++ gone' j).isEmpty && !(s.queues.get j).lossNote) =
        order.filter fun j => !(gone j).isEmpty && !(s.queues.get j).lossNote :=
      List.filter_congr fun j mem => by rw [elsewhere j mem, List.append_nil]
    have late : order'.filter (fun j => !(gone j ++ gone' j).isEmpty && !(s.queues.get j).lossNote) =
        order'.filter fun j => !(gone' j).isEmpty && !(u.queues.get j).lossNote :=
      List.filter_congr fun j mem => by rw [elsewhere' j mem, List.nil_append, stands (elsewhere' j mem)]
    rw [early, late]

theorem State.evicts_nothing (s : State) : s.evicts s [] fun _ => [] :=
  ⟨⟨s.queues, s.snips.slots, s.counters.poolLost, s.link.notices, rfl⟩, fun _ => Queue.loses_nothing _, fun _ => rfl,
    fun k => by simp [slotsOf], rfl⟩

/-- Several queues asked in turn (R125). -/
theorem State.evictAll_evicts {s : State} (sound : ∀ j, (s.queues.get j).sound) (is : List (Fin 4)) (distinct : is.Nodup) (lack : Nat) :
    s.evicts (s.evictAll is lack) is (goners (fun j => (s.queues.get j).records) is lack) := by
  induction is generalizing s lack with
  | nil => exact s.evicts_nothing
  | cons i is ih =>
    obtain ⟨fresh, distinct⟩ := List.nodup_cons.mp distinct
    have first := State.evictQueue_evicts sound i lack
    have rest := ih (State.queuesSound_evictQueue sound i lack) distinct (lack - (evictFrom lack (s.queues.get i).records).2.length)
    have others : ∀ j ∈ is, ((s.evictQueue i lack).queues.get j).records = (s.queues.get j).records := fun j mem => by
      rw [(first.queues j).2.2.1 (if_neg fun same : j = i => fresh (same ▸ mem))]
    rw [goners_congr others] at rest
    have both := State.evicts_trans first rest (fun j => ?_) (fun j mem => ?_) (fun j mem => ?_)
    · have all : (fun j => (if j = i then (evictFrom lack (s.queues.get i).records).2 else []) ++
          goners (fun j => (s.queues.get j).records) is (lack - (evictFrom lack (s.queues.get i).records).2.length) j) =
            goners (fun j => (s.queues.get j).records) (i :: is) lack := by
        funext j
        rw [goners]
        split
        · rename_i same
          subst same
          rw [goners_of_not_mem fresh, List.append_nil]
        · rw [List.nil_append]
      rw [all] at both
      exact both
    · by_cases same : j = i
      · subst same
        exact Or.inr (goners_of_not_mem fresh _)
      · exact Or.inl (if_neg same)
    · rw [List.mem_singleton.mp mem]
      exact goners_of_not_mem fresh _
    · exact if_neg fun same : j = i => fresh (same ▸ mem)

theorem State.evictAll_zero (s : State) (is : List (Fin 4)) : s.evictAll is 0 = s := by
  induction is with
  | nil => rfl
  | cons i is ih =>
    unfold State.evictAll
    dsimp only
    rw [State.evictQueue_none s i 0 (by rw [evictFrom_zero]), Nat.zero_sub, ih]

/-- Room made is what the victims' queues give up for what is lacking (R124, R125). -/
theorem State.makeRoom_evicts {s u : State} (sound : ∀ j, (s.queues.get j).sound) {i : Fin 4} {n : Nat} (made : s.makeRoom i n = some u) :
    s.evicts u (victimQueues i) (goners (fun j => (s.queues.get j).records) (victimQueues i) (s.poolHeld + n - 96)) := by
  have isAll : u = s.evictAll (victimQueues i) (s.poolHeld + n - 96) := by
    rcases s.makeRoom_cases i n with ⟨room, eq⟩ | ⟨-, -, eq⟩ | ⟨-, -, eq⟩ <;> cases made.symm.trans eq
    · rw [Nat.sub_eq_zero_of_le room, State.evictAll_zero]
    · rfl
  rw [isAll]
  exact State.evictAll_evicts sound _ (victimQueues_nodup i) _

/-- The victims queue by queue, from queue 3 down to the one above the arrival's (R125). -/
theorem goners_victims (records : Fin 4 → List Record) (i : Fin 4) (lack : Nat) :
    let gone3 := if i < 3 then (evictFrom lack (records 3)).2 else []
    let gone2 := if i < 2 then (evictFrom (lack - gone3.length) (records 2)).2 else []
    let gone1 := if i < 1 then (evictFrom (lack - gone3.length - gone2.length) (records 1)).2 else []
    goners records (victimQueues i) lack 0 = [] ∧ goners records (victimQueues i) lack 1 = gone1 ∧
      goners records (victimQueues i) lack 2 = gone2 ∧ goners records (victimQueues i) lack 3 = gone3 := by
  fin_cases i <;> exact ⟨rfl, rfl, rfl, rfl⟩

/-- Settles O42: the victims of one queue, the losses of all, the admission after them, and when there is room. -/
theorem evictionTakesTheOldestOfTheLowestQueue : Obligations.EvictionTakesTheOldestOfTheLowestQueue := by
  refine ⟨fun n rs tail => ?_, ?_, fun x rs some => x.accept_eq some, ?_⟩
  · obtain ⟨k, evicts⟩ := evictFrom_evicts n rs tail
    exact ⟨k, evicts.within, evicts.goneEq, evicts.stayEq, evicts.few, evicts.zero, evicts.all, evicts.whole, evicts.pair⟩
  · intro s i n sound gone3 gone2 gone1 gone u made
    obtain ⟨is0, is1, is2, is3⟩ := goners_victims (fun j => (s.queues.get j).records) i (s.poolHeld + n - 96)
    have isGone : goners (fun j => (s.queues.get j).records) (victimQueues i) (s.poolHeld + n - 96) = gone := by
      funext j
      match j with
      | 0 => exact is0
      | 1 => exact is1
      | 2 => exact is2
      | 3 => exact is3
    have evicted := State.makeRoom_evicts sound made
    rw [isGone] at evicted
    obtain ⟨frame, queues, losses, slots, notices⟩ := evicted
    refine ⟨State.makeRoom_room made, frame, fun j => ⟨(queues j).1, (queues j).2.1, (queues j).2.2.1, (queues j).2.2.2, losses j⟩,
      fun k => ?_, ?_, fun r rest high one outbox => ?_, fun r rest high one outbox plain => ?_,
      fun r rest k high two outbox marked free before => ?_⟩
    · rw [slots k]
      refine if_congr ⟨fun ⟨j, mem⟩ => ?_, ?_⟩ rfl rfl
      · match j, mem with
        | 1, mem => exact Or.inl mem
        | 2, mem => exact Or.inr (Or.inl mem)
        | 3, mem => exact Or.inr (Or.inr mem)
      · rintro (mem | mem | mem)
        · exact ⟨1, mem⟩
        · exact ⟨2, mem⟩
        · exact ⟨3, mem⟩
    · rw [notices, victimQueues, List.filter_filter]
      congr 1
      refine List.filter_congr fun j _ => ?_
      by_cases above : i < j
      · rw [decide_eq_true above, Bool.and_true]
      · have none : gone j = [] := by
          rw [← isGone]
          exact goners_of_not_mem (fun mem => above (of_decide_eq_true (List.mem_filter.mp mem).2)) _
        rw [none]
        rfl
    · subst one
      rw [exec_queueArrival_one high outbox (Or.inl ⟨r, rfl, rfl⟩), State.arriveOne_room made]
      rfl
    · subst one
      rw [exec_queueArrival_one high outbox (Or.inr ⟨r, rfl, plain, rfl⟩), State.arriveOne_room made]
      rfl
    · subst two
      rw [exec_queueArrival_snippet high outbox marked, if_neg (State.not_slotWaits before), State.arriveSnippet_room made free]
      rfl
  · intro s i sound evictable victims held
    refine ⟨s.poolHeld_held, fun n => ⟨fun enough => State.makeRoom_some sound enough, fun lack => State.makeRoom_lost sound lack⟩, ?_⟩
    intro h rest high outbox
    refine ⟨fun rec one enough => ?_, fun r routed marked enough held => ?_, fun r routed marked free enough before => ?_⟩
    · obtain ⟨u, made⟩ := State.makeRoom_some sound enough
      refine ⟨u, made, ?_⟩
      rw [exec_queueArrival_one high outbox one, State.arriveOne_room made]
      rfl
    · subst routed
      obtain ⟨u, made⟩ := State.makeRoom_some sound enough
      rw [exec_queueArrival_snippet high outbox marked, if_pos (State.slotWaits_of made held)]
    · subst routed
      obtain ⟨u, made⟩ := State.makeRoom_some sound enough
      obtain ⟨n, freeSlot⟩ := free
      have later : u.snips.lowestFree.isSome = true := (SnippetStore.lowestFree_iff _).mpr ⟨n, State.makeRoom_free made freeSlot⟩
      obtain ⟨k, lowest⟩ := Option.isSome_iff_exists.mp later
      obtain ⟨isFree, isLowest⟩ := (SnippetStore.lowestFree_eq_some _ k).mp lowest
      refine ⟨u, k, made, isFree, isLowest, ?_⟩
      rw [exec_queueArrival_snippet high outbox marked, if_neg (State.not_slotWaits before), State.arriveSnippet_room made lowest]
      rfl

end Sys2Proof.Machine
end

section
/-! Snippet slots: capture, copying and cutting (R142 to R146, R150, R151). -/

namespace Sys2Proof.Machine

/-! ## The copies of a capture (R143, R144) -/

section Copies

variable {r : Ring} {limit : Nat} {x : SnipSlot}

/-- The slot with `k` more triples copied from its next one on. -/
def SnipSlot.withCopies (x : SnipSlot) (r : Ring) (k : Nat) : SnipSlot :=
  { x with triples := x.triples ++ (List.range k).map fun j => ⟨(r.read (x.nextIdx + j)).raw, (r.read (x.nextIdx + j)).time⟩ }

theorem SnipSlot.withCopies_zero (x : SnipSlot) (r : Ring) : x.withCopies r 0 = x := by
  unfold SnipSlot.withCopies
  rw [List.range_zero, List.map_nil, List.append_nil]

theorem SnipSlot.withCopies_captured (x : SnipSlot) (r : Ring) (k : Nat) : (x.withCopies r k).captured = x.captured + k := by
  unfold SnipSlot.withCopies SnipSlot.captured
  rw [List.length_append, List.length_map, List.length_range]

theorem SnipSlot.withCopies_nextIdx (x : SnipSlot) (r : Ring) (k : Nat) : (x.withCopies r k).nextIdx = x.nextIdx + k := by
  unfold SnipSlot.nextIdx
  rw [SnipSlot.withCopies_captured, ← Nat.add_assoc]
  rfl

theorem SnipSlot.withCopies_succ (x : SnipSlot) (r : Ring) (k : Nat) : (x.withCopies r 1).withCopies r k = x.withCopies r (k + 1) := by
  rw [SnipSlot.withCopies, SnipSlot.withCopies_nextIdx]
  unfold SnipSlot.withCopies
  rw [List.range_succ_eq_map (n := k), List.map_cons, List.map_map, List.append_assoc]
  simp [List.range_one, Function.comp_def, Nat.add_assoc, Nat.add_comm 1]

theorem SnipSlot.copy_last (last : x.captured + 1 = x.planned) : x.copy (r.read x.nextIdx) = (x.withCopies r 1).finish := by
  have full : (x.withCopies r 1).captured = (x.withCopies r 1).planned := by
    rw [SnipSlot.withCopies_captured]
    exact last
  exact if_pos full

theorem SnipSlot.copy_more (more : x.captured + 1 ≠ x.planned) : x.copy (r.read x.nextIdx) = x.withCopies r 1 := by
  have room : (x.withCopies r 1).captured ≠ (x.withCopies r 1).planned := by
    rw [SnipSlot.withCopies_captured]
    exact more
  exact if_neg room

/-- The slot copies its next triple: it lies below the limit and is no DISC triple, or is triple 0 (R144). -/
def SnipSlot.goesOn (x : SnipSlot) (r : Ring) (limit : Nat) : Prop :=
  x.nextIdx < limit ∧ (x.captured = 0 ∨ (r.read x.nextIdx).disc = false)

theorem SnipSlot.copies_iff (unfinished : x.complete = false) :
    (decide (x.nextIdx < limit) && !x.complete && (x.captured == 0 || !(r.read x.nextIdx).disc)) = true ↔ x.goesOn r limit := by
  rw [unfinished]
  simp [SnipSlot.goesOn]

theorem SnipSlot.copyHeld_go (n : Nat) (unfinished : x.complete = false) (go : x.goesOn r limit) :
    SnipSlot.copyHeld r limit (n + 1) x = SnipSlot.copyHeld r limit n (x.copy (r.read x.nextIdx)) :=
  if_pos ((SnipSlot.copies_iff unfinished).mpr go)

theorem SnipSlot.copyHeld_stay (n : Nat) (unfinished : x.complete = false) (stay : ¬x.goesOn r limit) :
    SnipSlot.copyHeld r limit (n + 1) x = x :=
  if_neg (mt (SnipSlot.copies_iff unfinished).mp stay)

theorem SnipSlot.stopped (stay : ¬x.goesOn r limit) :
    limit ≤ x.nextIdx + 0 ∨ (x.captured + 0 ≠ 0 ∧ (r.read (x.nextIdx + 0)).disc = true) := by
  rw [SnipSlot.goesOn, not_and_or, not_or, Nat.not_lt, Bool.not_eq_false] at stay
  exact stay

/-- The forward copy stops at the planned length, at the limit, or before a DISC triple other than triple 0 (R144). -/
theorem SnipSlot.copyHeld_run (n : Nat) (unfinished : x.complete = false) (room : x.captured + (n + 1) = x.planned) :
    ∃ k ≤ n + 1, SnipSlot.copyHeld r limit (n + 1) x = (if k = n + 1 then (x.withCopies r k).finish else x.withCopies r k) ∧
      (∀ j < k, x.nextIdx + j < limit ∧ (x.captured + j = 0 ∨ (r.read (x.nextIdx + j)).disc = false)) ∧
      (k = n + 1 ∨ limit ≤ x.nextIdx + k ∨ (x.captured + k ≠ 0 ∧ (r.read (x.nextIdx + k)).disc = true)) := by
  induction n generalizing x with
  | zero =>
    by_cases go : x.goesOn r limit
    · refine ⟨1, le_refl _, by rw [SnipSlot.copyHeld_go 0 unfinished go, SnipSlot.copy_last room]; rfl, fun j less => ?_, Or.inl rfl⟩
      rw [Nat.lt_one_iff.mp less]
      exact go
    · exact ⟨0, Nat.zero_le _, by rw [SnipSlot.copyHeld_stay 0 unfinished go, if_neg (by decide), SnipSlot.withCopies_zero],
        fun j less => absurd less (Nat.not_lt_zero j), Or.inr (SnipSlot.stopped go)⟩
  | succ n ih =>
    by_cases go : x.goesOn r limit
    · obtain ⟨k, le, same, each, stop⟩ := ih (x := x.withCopies r 1) (by exact unfinished) (by
        rw [SnipSlot.withCopies_captured, Nat.add_assoc, Nat.add_comm 1]
        exact room)
      rw [SnipSlot.withCopies_nextIdx, SnipSlot.withCopies_captured] at each stop
      refine ⟨k + 1, Nat.succ_le_succ le, ?_, fun j less => ?_, ?_⟩
      · rw [SnipSlot.copyHeld_go _ unfinished go, SnipSlot.copy_more (by omega), same, SnipSlot.withCopies_succ]
        exact if_congr (by omega) rfl rfl
      · cases j with
        | zero => exact go
        | succ j =>
          have later := each j (Nat.lt_of_succ_lt_succ less)
          rw [Nat.add_assoc, Nat.add_assoc, Nat.add_comm 1 j] at later
          exact later
      · rw [Nat.add_assoc, Nat.add_assoc, Nat.add_comm 1 k] at stop
        exact stop.imp_left (congrArg (· + 1))
    · exact ⟨0, Nat.zero_le _, by
          rw [SnipSlot.copyHeld_stay _ unfinished go, if_neg (Nat.succ_ne_zero _).symm, SnipSlot.withCopies_zero],
        fun j less => absurd less (Nat.not_lt_zero j), Or.inr (SnipSlot.stopped go)⟩

end Copies

/-! ## The backward copy, the limit and the cut (R142, R143, R145) -/

section Capture

variable {st : SnippetStore} {r : Ring} {p : Pick}

/-- The onset was written before the boundary (R145). -/
def SnippetStore.isLate (st : SnippetStore) (p : Pick) : Bool :=
  match st.boundary with
  | none => false
  | some b => decide (p.onset.idx < b)

/-- The count that the forward copy stays below: the boundary for a late pick, the triples written for any other (R144, R145). -/
def SnippetStore.limit (st : SnippetStore) (r : Ring) (p : Pick) : Nat :=
  if st.isLate p then st.boundary.getD r.written else r.written

/-- The triples of the backward copy, the onset triple the last. -/
def SnippetStore.backward (st : SnippetStore) (r : Ring) (p : Pick) : List Triple := r.walkBack (st.settings.pre + 1) p.onset.idx []

/-- The slot after the backward copy (R143). -/
def SnippetStore.opened (st : SnippetStore) (r : Ring) (p : Pick) : SnipSlot :=
  { state := .filling
    pick := p.number
    pre := st.settings.pre
    post := st.settings.post
    size := st.settings.size
    onset := p.onset
    preCount := (st.backward r p).length - 1
    length := 0
    complete := false
    cut := false
    triples := (st.backward r p).dropLast.map fun t => ⟨t.raw, t.time⟩ }

theorem SnippetStore.capture_eq (st : SnippetStore) (r : Ring) (p : Pick) :
    st.capture r p =
      if st.isLate p && !(SnipSlot.copyHeld r (st.limit r p) st.settings.post (st.opened r p)).complete then
        ((SnipSlot.copyHeld r (st.limit r p) st.settings.post (st.opened r p)).cutNow, true)
      else (SnipSlot.copyHeld r (st.limit r p) st.settings.post (st.opened r p), false) := rfl

theorem SnippetStore.isLate_iff : st.isLate p = true ↔ ∃ b, st.boundary = some b ∧ p.onset.idx < b := by
  unfold SnippetStore.isLate
  cases st.boundary <;> simp

theorem SnippetStore.limit_late {b : Nat} (boundary : st.boundary = some b) (late : p.onset.idx < b) : st.limit r p = b := by
  rw [SnippetStore.limit, if_pos (SnippetStore.isLate_iff.mpr ⟨b, boundary, late⟩), boundary]
  rfl

theorem SnippetStore.limit_not_late (timely : st.isLate p = false) : st.limit r p = r.written := by
  rw [SnippetStore.limit, timely]
  rfl

theorem SnippetStore.backward_ne_nil : st.backward r p ≠ [] := by
  by_cases ends : (r.read p.onset.idx).disc = true ∨ p.onset.idx ≤ r.oldest
  · rw [SnippetStore.backward, Ring.walkBack_stop ends]
    exact List.cons_ne_nil _ _
  · rw [SnippetStore.backward, Ring.walkBack_on ends]
    exact List.append_ne_nil_of_right_ne_nil _ (List.cons_ne_nil _ _)

theorem SnippetStore.opened_captured : (st.opened r p).captured = (st.opened r p).preCount := by
  change ((st.backward r p).dropLast.map _).length = (st.backward r p).length - 1
  rw [List.length_map, List.length_dropLast]

/-- The backward copy holds triples of the ring that precede the onset, as many as R143 allows. -/
theorem SnippetStore.opened_spec (held : r.oldest ≤ p.onset.idx) :
    (st.opened r p).preCount ≤ st.settings.pre ∧ (st.opened r p).preCount + r.oldest ≤ p.onset.idx ∧
      ((st.opened r p).preCount = st.settings.pre ∨ (st.opened r p).start = r.oldest ∨ (r.read (st.opened r p).start).disc = true) ∧
      ∀ k t, (st.opened r p).triples[k]? = some t →
        t = ⟨(r.read ((st.opened r p).start + k)).raw, (r.read ((st.opened r p).start + k)).time⟩ ∧
        (k ≠ 0 → (r.read ((st.opened r p).start + k)).disc = false) := by
  obtain ⟨few, within, each, short⟩ := r.walkBack_spec (st.settings.pre + 1) p.onset.idx held
  obtain ⟨back, whole⟩ : ∃ back, st.backward r p = back := ⟨_, rfl⟩
  have some_ : back ≠ [] := whole ▸ SnippetStore.backward_ne_nil
  change (st.backward r p).length ≤ _ at few
  change (st.backward r p).length ≤ _ at within
  change ∀ k t, (st.backward r p)[k]? = some t → t = r.read (p.onset.idx + 1 - (st.backward r p).length + k) ∧ _ at each
  change (st.backward r p).length = _ ∨ p.onset.idx + 1 - (st.backward r p).length = _ ∨ ∃ t, (st.backward r p).head? = some t ∧ _ at short
  have pre : (st.opened r p).preCount = back.length - 1 := congrArg (fun l => l.length - 1) whole
  have triples : (st.opened r p).triples = back.dropLast.map fun t => ⟨t.raw, t.time⟩ :=
    congrArg (fun l => l.dropLast.map fun t => (⟨t.raw, t.time⟩ : SnipTriple)) whole
  rw [whole] at few within each short
  have positive := List.length_pos_iff.mpr some_
  have start : (st.opened r p).start = p.onset.idx + 1 - back.length := by
    change p.onset.idx - (st.opened r p).preCount = _
    omega
  refine ⟨by omega, by omega, ?_, fun k t at_ => ?_⟩
  · rw [start]
    rcases short with full | oldest | ⟨t, head, disc⟩
    · exact Or.inl (by omega)
    · exact Or.inr (Or.inl oldest)
    · right
      right
      rw [List.head?_eq_getElem?] at head
      have first := (each 0 t head).1
      rw [Nat.add_zero] at first
      rw [← first]
      exact disc
  · rw [triples, List.getElem?_map, Option.map_eq_some_iff] at at_
    obtain ⟨u, at_, rfl⟩ := at_
    have inBack : back[k]? = some u := by
      rw [List.getElem?_dropLast] at at_
      split at at_
      · exact at_
      · cases at_
    obtain ⟨same, plain⟩ := each k u inBack
    rw [start, ← same]
    exact ⟨rfl, plain⟩

/-- The slot with `k` triples of the forward copy, the copy ended as R144 says. -/
structure SnippetStore.CopyEnds (st : SnippetStore) (r : Ring) (p : Pick) (k : Nat) : Prop where
  few : k ≤ st.settings.post
  each : ∀ j < k, p.onset.idx + j < st.limit r p ∧ ((st.opened r p).preCount + j = 0 ∨ (r.read (p.onset.idx + j)).disc = false)
  stop : k = st.settings.post ∨ st.limit r p ≤ p.onset.idx + k ∨
    ((st.opened r p).preCount + k ≠ 0 ∧ (r.read (p.onset.idx + k)).disc = true)

/-- The slot taken: complete at the planned length, cut when late, or still capturing (R142 to R146, log 22). -/
theorem SnippetStore.capture_run (held : r.oldest ≤ p.onset.idx) (post : 1 ≤ st.settings.post) :
    ∃ k, st.CopyEnds r p k ∧ st.capture r p =
      if k = st.settings.post then (((st.opened r p).withCopies r k).finish, false)
      else if st.isLate p then (((st.opened r p).withCopies r k).cutNow, true)
      else ((st.opened r p).withCopies r k, false) := by
  obtain ⟨-, within, -, -⟩ := SnippetStore.opened_spec (st := st) held
  obtain ⟨n, length⟩ : ∃ n, st.settings.post = n + 1 := ⟨st.settings.post - 1, by omega⟩
  have next : (st.opened r p).nextIdx = p.onset.idx := by
    rw [SnipSlot.nextIdx, SnippetStore.opened_captured]
    change p.onset.idx - (st.opened r p).preCount + (st.opened r p).preCount = p.onset.idx
    omega
  obtain ⟨k, few, copies, each, stop⟩ := SnipSlot.copyHeld_run (r := r) (limit := st.limit r p) (x := st.opened r p) n rfl (by
    rw [SnippetStore.opened_captured, ← length]
    rfl)
  rw [next, SnippetStore.opened_captured] at each stop
  rw [← length] at few copies stop
  refine ⟨k, ⟨few, each, stop⟩, ?_⟩
  rw [SnippetStore.capture_eq, copies]
  by_cases full : k = st.settings.post
  · rw [if_pos full, if_pos full, if_neg]
    rw [Bool.and_eq_true]
    exact fun both => nomatch both.2
  · rw [if_neg full, if_neg full]
    have unfinished : (!((st.opened r p).withCopies r k).complete) = true := rfl
    rw [unfinished, Bool.and_true]

/-- The triples of the slot taken stand one after the other in the ring, no DISC triple after the first (R143, R144). -/
theorem SnippetStore.capture_triples (held : r.oldest ≤ p.onset.idx) {k i : Nat} {t : SnipTriple} (ends : st.CopyEnds r p k)
    (at_ : ((st.opened r p).withCopies r k).triples[i]? = some t) :
    t = ⟨(r.read ((st.opened r p).start + i)).raw, (r.read ((st.opened r p).start + i)).time⟩ ∧
      (i ≠ 0 → (r.read ((st.opened r p).start + i)).disc = false) := by
  obtain ⟨-, within, -, back⟩ := SnippetStore.opened_spec (st := st) held
  have count : (st.opened r p).triples.length = (st.opened r p).preCount := SnippetStore.opened_captured
  have start : (st.opened r p).start = p.onset.idx - (st.opened r p).preCount := rfl
  have next : (st.opened r p).nextIdx = p.onset.idx := by
    rw [SnipSlot.nextIdx, SnippetStore.opened_captured, start]
    omega
  unfold SnipSlot.withCopies at at_
  rw [List.getElem?_append] at at_
  by_cases older : i < (st.opened r p).triples.length
  · rw [if_pos older] at at_
    exact back i t at_
  · rw [if_neg older, List.getElem?_map, Option.map_eq_some_iff] at at_
    obtain ⟨j, at_, rfl⟩ := at_
    obtain ⟨less, same⟩ := List.getElem?_eq_some_iff.mp at_
    rw [List.getElem_range] at same
    rw [List.length_range] at less
    have place : (st.opened r p).start + i = p.onset.idx + j := by omega
    rw [next, place]
    exact ⟨rfl, fun other => (ends.each j (by omega)).2.resolve_left (by omega)⟩

end Capture

/-- Settles O46: the capture is the backward copy followed by `k` triples of the forward copy; the slot then is finished, cut, or as it is. -/
theorem slotIsCapturedFromTheRing : Obligations.SlotIsCapturedFromTheRing := by
  unfold Obligations.SlotIsCapturedFromTheRing
  refine ⟨fun st r p held post => ?_, fun s n p => ?_⟩
  · intro x late start c
    obtain ⟨k, ends, taken⟩ := SnippetStore.capture_run held post
    obtain ⟨few, within, reach, -⟩ := SnippetStore.opened_spec (st := st) held
    have isLate : st.isLate p = true ↔ late := SnippetStore.isLate_iff
    obtain ⟨w, copied⟩ : ∃ w, (st.opened r p).withCopies r k = w := ⟨_, rfl⟩
    rw [copied] at taken
    have kinds : (k = st.settings.post ∧ st.capture r p = (w.finish, false)) ∨
        (k ≠ st.settings.post ∧ late ∧ st.capture r p = (w.cutNow, true)) ∨
        (k ≠ st.settings.post ∧ ¬late ∧ st.capture r p = (w, false)) := by
      by_cases full : k = st.settings.post
      · rw [if_pos full] at taken
        exact Or.inl ⟨full, taken⟩
      · rw [if_neg full] at taken
        by_cases timely : st.isLate p = true
        · rw [if_pos timely] at taken
          exact Or.inr (Or.inl ⟨full, isLate.mp timely, taken⟩)
        · rw [if_neg timely] at taken
          exact Or.inr (Or.inr ⟨full, mt isLate.mpr timely, taken⟩)
    have shape : x = { w with state := x.state, length := x.length, complete := x.complete, cut := x.cut } := by
      rcases kinds with ⟨-, is⟩ | ⟨-, -, is⟩ | ⟨-, -, is⟩ <;> rw [show x = _ from congrArg Prod.fst is] <;> rfl
    have pre : x.preCount = (st.opened r p).preCount := by rw [shape, ← copied]; rfl
    have begin_ : start = (st.opened r p).start := congrArg (p.onset.idx - ·) pre
    have count : c = x.preCount + k := by
      rw [pre, ← SnippetStore.opened_captured, ← SnipSlot.withCopies_captured, copied]
      exact congrArg List.length (by rw [shape] : x.triples = w.triples)
    have size : x.post = st.settings.post := by rw [shape, ← copied]; rfl
    have place (i : Nat) (at_least : x.preCount ≤ i) : start + i = p.onset.idx + (i - x.preCount) := by
      change p.onset.idx - x.preCount + i = _
      omega
    have last : start + c = p.onset.idx + k := by
      rw [place c (by omega), count, Nat.add_sub_cancel_left]
    have tail : (x.complete = true ↔ c = x.preCount + x.post ∨ late) ∧ (x.cut = true ↔ late ∧ c < x.preCount + x.post) ∧
        (x.complete = true → x.length = c ∧ x.state = .ready) ∧ (x.complete = false → x.state = .filling) ∧ (st.capture r p).2 = x.cut := by
      have fresh : w.state = .filling ∧ w.complete = false ∧ w.cut = false := by
        rw [← copied]
        exact ⟨rfl, rfl, rfl⟩
      obtain ⟨filling, unfinished, uncut⟩ := fresh
      have captured : w.captured = c := (congrArg List.length (by rw [shape] : x.triples = w.triples)).symm
      have short (less : k ≠ st.settings.post) : c < x.preCount + x.post := by
        have := ends.few
        omega
      rcases kinds with ⟨full, is⟩ | ⟨less, isLate, is⟩ | ⟨less, timely, is⟩
      · have whole : c = x.preCount + x.post := by rw [count, size, full]
        have finished : x = w.finish := congrArg Prod.fst is
        have planned : w.planned = c := by
          rw [whole, finished]
          rfl
        refine ⟨⟨fun _ => Or.inl whole, fun _ => by rw [finished]; rfl⟩, ⟨fun cut => ?_, fun both => absurd both.2 (by omega)⟩,
          fun _ => ⟨?_, ?_⟩, fun no => ?_, ?_⟩
        · rw [finished] at cut
          exact absurd (uncut.symm.trans cut) (by decide)
        · rw [← planned, finished]
          rfl
        · rw [finished]
          exact congrArg SnipState.completed filling
        · rw [finished] at no
          cases no
        · rw [finished, is]
          exact uncut.symm
      · have cutShort : x = w.cutNow := congrArg Prod.fst is
        refine ⟨⟨fun _ => Or.inr isLate, fun _ => by rw [cutShort]; rfl⟩, ⟨fun _ => ⟨isLate, short less⟩, fun _ => by rw [cutShort]; rfl⟩,
          fun _ => ⟨?_, ?_⟩, fun no => ?_, ?_⟩
        · rw [← captured, cutShort]
          rfl
        · rw [cutShort]
          exact congrArg SnipState.completed filling
        · rw [cutShort] at no
          cases no
        · rw [cutShort, is]
          rfl
      · have capturing : x = w := congrArg Prod.fst is
        have few := short less
        refine ⟨⟨fun done => ?_, fun done => absurd done (not_or.mpr ⟨by omega, timely⟩)⟩, ⟨fun done => ?_, fun both => absurd both.1 timely⟩,
          fun done => ?_, fun _ => by rw [capturing]; exact filling, by rw [capturing, is]; exact uncut.symm⟩
        · rw [capturing, unfinished] at done
          cases done
        · rw [capturing, uncut] at done
          cases done
        · rw [capturing, unfinished] at done
          cases done
    refine ⟨by rw [shape, ← copied]; rfl, by rw [shape, ← copied]; rfl, size, by rw [shape, ← copied]; rfl, by rw [shape, ← copied]; rfl,
      by rw [pre]; exact few, ?_, ?_, by omega, by rw [count, size]; have := ends.few; omega, fun i t at_ => ?_, fun i least less => ?_,
      fun b i boundary after least less => ?_, ?_, tail⟩
    · rw [begin_]
      change _ ≤ p.onset.idx - (st.opened r p).preCount
      omega
    · rw [begin_, pre]
      exact reach
    · rw [shape, ← copied] at at_
      rw [begin_]
      exact SnippetStore.capture_triples held ends at_
    · by_cases timely : st.isLate p = true
      · exact Or.inr (isLate.mp timely)
      · left
        rw [← SnippetStore.limit_not_late (Bool.not_eq_true _ ▸ timely : st.isLate p = false), place i least]
        exact (ends.each (i - x.preCount) (by omega)).1
    · rw [← SnippetStore.limit_late (r := r) boundary after, place i least]
      exact (ends.each (i - x.preCount) (by omega)).1
    · rw [last]
      rcases ends.stop with full | limit | ⟨some_, disc⟩
      · exact Or.inl (by rw [count, size, full])
      · right
        right
        by_cases timely : st.isLate p = true
        · obtain ⟨b, boundary, after⟩ := isLate.mp timely
          rw [SnippetStore.limit_late boundary after] at limit
          exact Or.inr ⟨b, boundary, after, limit⟩
        · rw [SnippetStore.limit_not_late (Bool.not_eq_true _ ▸ timely : st.isLate p = false)] at limit
          exact Or.inl ⟨mt isLate.mpr timely, limit⟩
      · exact Or.inr (Or.inl ⟨by omega, disc⟩)
  · refine ⟨s.snips.slots.set n (s.snips.capture s.ring p).1, ?_, Eight.get_set_self _ _ _, fun k other => Eight.get_set_ne _ _ other⟩
    unfold State.takeSlot
    cases (s.snips.capture s.ring p) with
    | mk x wasCut => cases wasCut <;> rfl

end Sys2Proof.Machine
end

section
/-! SNIPPET_TRIPLE and SNIPPET_DISCONTINUITY (R146, R150, R151). -/

namespace Sys2Proof.Machine

/-! ## One treatment of every slot -/

/-- A treatment of slots one by one: slot `n` becomes `become n` of itself, and is counted as cut where `cuts n` says so. -/
structure TreatsSlots (f : State → Fin 8 → State) (become : SnipSlot → SnipSlot) (cuts : SnipSlot → Bool) : Prop where
  eq : ∀ (s : State) (n : Fin 8), s.counters.snippetCut ≤ 4294967295 → f s n = { s with
    snips := { s.snips with slots := s.snips.slots.set n (become (s.snips.slots.get n)) }
    counters := { s.counters with
      snippetCut := min 4294967295 (s.counters.snippetCut + if cuts (s.snips.slots.get n) then 1 else 0) } }

theorem TreatsSlots.fold {f : State → Fin 8 → State} {become : SnipSlot → SnipSlot} {cuts : SnipSlot → Bool} (treats : TreatsSlots f become cuts)
    {s : State} (bounded : s.counters.snippetCut ≤ 4294967295) (ns : List (Fin 8)) (distinct : ns.Nodup) : ∃ slots : Eight SnipSlot,
      ns.foldl f s = { s with
        snips := { s.snips with slots := slots }
        counters := { s.counters with
          snippetCut := min 4294967295 (s.counters.snippetCut + ns.countP fun n => cuts (s.snips.slots.get n)) } } ∧
      ∀ n, slots.get n = if n ∈ ns then become (s.snips.slots.get n) else s.snips.slots.get n := by
  induction ns generalizing s with
  | nil =>
    have counter : min 4294967295 s.counters.snippetCut = s.counters.snippetCut := min_eq_right bounded
    refine ⟨s.snips.slots, ?_, fun n => rfl⟩
    rw [List.countP_nil, Nat.add_zero, counter]
    rfl
  | cons n ns ih =>
    obtain ⟨fresh, distinct⟩ := List.nodup_cons.mp distinct
    have first := treats.eq s n bounded
    obtain ⟨u, treated⟩ : ∃ u, f s n = u := ⟨_, rfl⟩
    rw [treated] at first
    obtain ⟨slots, rest, each⟩ := ih (s := u) (by rw [first]; exact min_le_left _ _) distinct
    have old (k : Fin 8) (other : k ≠ n) : u.snips.slots.get k = s.snips.slots.get k := by
      rw [first]
      exact Eight.get_set_ne _ _ other
    have later : (ns.countP fun k => cuts (u.snips.slots.get k)) = ns.countP fun k => cuts (s.snips.slots.get k) := by
      refine List.countP_congr fun k mem => ?_
      rw [old k fun same => fresh (same ▸ mem)]
    refine ⟨slots, ?_, fun k => ?_⟩
    · rw [List.foldl_cons, treated, rest, later, first, List.countP_cons]
      have counter (a b : Nat) : min 4294967295 (min 4294967295 (s.counters.snippetCut + a) + b) =
          min 4294967295 (s.counters.snippetCut + (b + a)) := by omega
      simp only [counter]
    · rw [each k]
      by_cases same : k = n
      · subst same
        rw [if_neg fresh, if_pos List.mem_cons_self, first]
        exact Eight.get_set_self _ _ _
      · rw [old k same]
        exact if_congr (by simp [same]) rfl rfl

/-- A slot that stands: the treatment leaves the state. -/
theorem State.keepSlot {s : State} (bounded : s.counters.snippetCut ≤ 4294967295) (n : Fin 8) : s = { s with
    snips := { s.snips with slots := s.snips.slots.set n (s.snips.slots.get n) }
    counters := { s.counters with snippetCut := min 4294967295 (s.counters.snippetCut + 0) } } := by
  have counter : min 4294967295 (s.counters.snippetCut + 0) = s.counters.snippetCut := min_eq_right bounded
  simp only [counter, Eight.set_get_self]

/-! ## The two treatments -/

/-- What a slot becomes that is offered triple `idx` (R146). -/
def SnipSlot.offered (idx : Nat) (t : Triple) (x : SnipSlot) : SnipSlot :=
  if x.capturing && decide (x.nextIdx = idx) then if t.disc then x.cutNow else x.copy t else x

/-- What a slot becomes at a signal (R151). -/
def SnipSlot.signalled (x : SnipSlot) : SnipSlot := if x.capturing then x.cutNow else x

theorem offerSlot_treats (idx : Nat) (t : Triple) : TreatsSlots (fun s n => s.offerSlot idx t n) (SnipSlot.offered idx t)
    fun x => (x.capturing && decide (x.nextIdx = idx)) && t.disc where
  eq s n bounded := by
    unfold SnipSlot.offered State.offerSlot
    dsimp only
    by_cases takes : ((s.snips.slots.get n).capturing && decide ((s.snips.slots.get n).nextIdx = idx)) = true
    · rw [if_pos takes, if_pos takes, takes, Bool.true_and]
      by_cases disc : t.disc = true
      · rw [if_pos disc, if_pos disc, if_pos disc]
        rfl
      · rw [if_neg disc, if_neg disc, if_neg disc, Nat.add_zero, min_eq_right bounded]
    · rw [if_neg takes, if_neg takes, if_neg fun both => takes (Bool.and_eq_true _ _ ▸ both : _ ∧ _).1]
      exact State.keepSlot bounded n

theorem cutSlot_treats : TreatsSlots State.cutSlot SnipSlot.signalled SnipSlot.capturing where
  eq s n bounded := by
    unfold SnipSlot.signalled State.cutSlot
    dsimp only
    by_cases capturing : (s.snips.slots.get n).capturing = true
    · rw [if_pos capturing, if_pos capturing, if_pos capturing]
      rfl
    · rw [if_neg capturing, if_neg capturing, if_neg capturing]
      exact State.keepSlot bounded n

theorem SnipState.completed_eq (x : SnipState) : x.completed = if x = .filling then .ready else x := by
  cases x <;> rfl

theorem SnipSlot.cutNow_eq (x : SnipSlot) : x.cutNow = { x with
    length := x.triples.length, complete := true, cut := true, state := if x.state = .filling then .ready else x.state } := by
  rw [← SnipState.completed_eq]
  rfl

theorem SnipSlot.finish_eq (x : SnipSlot) : x.finish = { x with
    length := x.preCount + x.post, complete := true, state := if x.state = .filling then .ready else x.state } := by
  rw [← SnipState.completed_eq]
  rfl

/-- Settles O47: the fold over the eight slots treats each by itself and counts the cuts. -/
theorem snippetStoreCopiesAndCuts : Obligations.SnippetStoreCopiesAndCuts := by
  unfold Obligations.SnippetStoreCopiesAndCuts
  intro s high bounded cut capturing counted
  refine ⟨fun ready => ?_, fun c signal => ?_⟩
  · intro idx t takes
    obtain ⟨slots, fold, each⟩ := (offerSlot_treats idx t).fold (s := { s with snips := { s.snips with feed := s.snips.feed.takeTriple } })
      (by exact bounded) slotNumbers (by decide)
    refine ⟨slots, ?_, fun n => ?_⟩
    · change Host.Outcome.next (s.live _) = _
      rw [State.live_high high, State.snippetTriple, if_pos ready]
      exact congrArg Host.Outcome.next fold
    · intro x y
      have here := each n
      rw [if_pos (mem_slotNumbers n)] at here
      change slots.get n = SnipSlot.offered idx t x at here
      have asked : takes n = (x.capturing && decide (x.nextIdx = idx)) := rfl
      rw [asked, here, SnipSlot.offered]
      refine ⟨fun no => by rw [if_neg (by rw [no]; decide)], fun yes disc => by rw [if_pos yes, if_pos disc, SnipSlot.cutNow_eq], fun yes disc => ?_⟩
      rw [if_pos yes, if_neg (by rw [disc]; decide)]
      have grown : y.captured = x.triples.length + 1 := List.length_append
      refine ⟨fun full => ?_, fun less => ?_⟩
      · exact (if_pos (grown.trans full : y.captured = y.planned)).trans (SnipSlot.finish_eq y)
      · exact if_neg fun full : y.captured = y.planned => less (grown.symm.trans full)
  · obtain ⟨slots, fold, each⟩ := cutSlot_treats.fold (s := { s with snips := { s.snips with feed := s.snips.feed.takeSignal } })
      (by exact bounded) slotNumbers (by decide)
    refine ⟨slots, ?_, fun n => ?_⟩
    · change Host.Outcome.next (s.live _) = _
      rw [State.live_high high, State.snippetSignal, signal]
      change Host.Outcome.next (State.finishFlush { (slotNumbers.foldl State.cutSlot _) with snips := _ }) = _
      rw [fold]
      rfl
    · rw [each n, if_pos (mem_slotNumbers n), SnipSlot.signalled, SnipSlot.cutNow_eq]
      rfl

end Sys2Proof.Machine
end

section
/-! The layout of the outbound message bodies (section 9.4, R149). -/

namespace Sys2Proof.Machine

/-! ## Fields -/

theorem beVal_beBytes (n v : Nat) : beVal (beBytes n v) = v % 256 ^ n := by
  induction n with
  | zero => rw [Nat.pow_zero, Nat.mod_one]; rfl
  | succ n ih =>
    have digits : v % 256 ^ (n + 1) = v % 256 ^ n + 256 ^ n * (v / 256 ^ n % 256) := by rw [Nat.pow_succ, Nat.mod_mul]
    rw [beBytes, beVal_cons, beBytes_length, ih, BitVec.toNat_ofNat, digits, Nat.mul_comm (256 ^ n), Nat.add_comm]

theorem beVal_field {n v : Nat} (fits : v < 256 ^ n) : beVal (field n v) = v := by
  rw [field, if_pos fits, beVal_beBytes, Nat.mod_eq_of_lt fits]

/-- The unsigned number whose bytes are the two's complement of `x` in `n` bytes. -/
def twos (n : Nat) (x : Int) : Nat := if x < 0 then (x + (256 ^ n : Nat)).toNat else x.toNat

theorem signedField_eq (n : Nat) (x : Int) : signedField n x = field n (twos n x) := rfl

theorem twos_count {x : Int} (count : isCount x) : twos 3 x < 256 ^ 3 ∧ signed24 (twos 3 x) = x := by
  obtain ⟨low, high⟩ := count
  unfold twos signed24
  by_cases negative : x < 0
  · rw [if_pos negative]
    refine ⟨by omega, ?_⟩
    rw [if_neg (by omega)]
    omega
  · rw [if_neg negative]
    refine ⟨by omega, ?_⟩
    rw [if_pos (by omega)]
    omega

theorem twos_two (x : Int) : twos 2 x = (if x < 0 then x + 65536 else x).toNat := by
  unfold twos
  split <;> rfl

/-! ## Where a body carries a field -/

section Carries

variable {α : Type} {pre rest bs : List Byte} {off n v : Nat}

theorem carries_here : carries (field n v ++ rest) 0 n v := by
  intro fits
  rw [List.drop_zero, List.take_append_of_le_length (le_of_eq (field_length n v).symm), List.take_of_length_le (le_of_eq (field_length n v))]
  exact beVal_field fits

theorem carries_alone : carries (field n v) 0 n v := by
  rw [← List.append_nil (field n v)]
  exact carries_here

theorem carries_later (p : Nat) (length : pre.length = p) (later : carries rest off n v) : carries (pre ++ rest) (p + off) n v := by
  intro fits
  rw [← length, ← List.drop_drop, List.drop_left]
  exact later fits

theorem carries_earlier (within : off + n ≤ pre.length) (earlier : carries pre off n v) : carries (pre ++ rest) off n v := by
  intro fits
  rw [List.drop_append_of_le_length (by omega), List.take_append_of_le_length (by rw [List.length_drop]; omega)]
  exact earlier fits

/-- The body of a list of fields, each a length and a number. -/
def flat (fs : List (Nat × Nat)) : List Byte := fs.flatMap fun f => field f.1 f.2

/-- A body carries the fields, one after the other, from offset `off` on. -/
def carriesFrom (bs : List Byte) : Nat → List (Nat × Nat) → Prop
  | _, [] => True
  | off, f :: fs => carries bs off f.1 f.2 ∧ carriesFrom bs (off + f.1) fs

theorem carriesFrom_flat (fs : List (Nat × Nat)) : carriesFrom (pre ++ (flat fs ++ rest)) pre.length fs := by
  induction fs generalizing pre with
  | nil => trivial
  | cons f fs ih =>
    have parts : pre ++ (flat (f :: fs) ++ rest) = pre ++ field f.1 f.2 ++ (flat fs ++ rest) := by
      rw [flat, List.flatMap_cons, List.append_assoc, List.append_assoc]
      rfl
    refine ⟨?_, ?_⟩
    · rw [parts, List.append_assoc]
      exact carries_later (off := 0) pre.length rfl carries_here
    · have next := ih (pre := pre ++ field f.1 f.2)
      rw [List.length_append, field_length] at next
      rw [parts]
      exact next

/-- Parts of one length: the part of the element at `i` stands after `i` of them. -/
theorem carries_part {f : α → List Byte} {w : Nat} (length : ∀ a, (f a).length = w) {l : List α} {a : α} {i : Nat} (at_ : l[i]? = some a)
    (within : off + n ≤ w) (here : carries (f a) off n v) : carries (l.flatMap f) (w * i + off) n v := by
  obtain ⟨less, same⟩ := List.getElem?_eq_some_iff.mp at_
  have parts : l.flatMap f = (l.take i).flatMap f ++ (f a ++ (l.drop (i + 1)).flatMap f) := by
    conv_lhs => rw [← List.take_append_drop i l, List.drop_eq_getElem_cons less, same]
    rw [List.flatMap_append, List.flatMap_cons]
  rw [parts]
  refine carries_later (w * i) ?_ (carries_earlier (by rw [length]; exact within) here)
  rw [List.length_flatMap, List.map_congr_left fun a _ => length a, List.map_const', List.sum_replicate, List.length_take,
    min_eq_left (by omega), smul_eq_mul, Nat.mul_comm]

theorem Four.toList_get (f : Four α) (q : Fin 4) : f.toList[q.val]? = some (f.get q) := by
  fin_cases q <;> rfl

theorem Eight.toList_get (f : Eight α) (k : Fin 8) : f.toList[k.val]? = some (f.get k) := by
  fin_cases k <;> rfl

end Carries

/-! ## PICK (R188) -/

/-- The 37 bytes every PICK has. -/
def PickReport.fixed (r : PickReport) : List (Nat × Nat) :=
  [(2, r.pick.number), (1, r.pick.kind.code), (1, r.pick.source.code), (1, r.pick.phase.code), (1, r.pick.classification.code),
    (6, r.pick.onset.time), (6, r.pick.triggerTime), (1, r.pick.grade), (1, r.pick.polarity.code), (2, r.pick.snr16), (2, r.pick.hv16),
    (3, r.pick.peakAmplitude), (1, r.pick.peakComponent.code), (1, r.pick.peakOffset), (2, r.pick.measured), (2, r.event),
    (1, r.role.code), (2, r.flags), (1, r.pick.presence)]

theorem PickReport.body_eq (r : PickReport) : r.body = flat r.fixed ++ (optPart (fun n : Fin 8 => field 1 n.val) r.pick.confirmedBy ++
    (optPart (field 2) r.pick.coincident ++ optPart (signedField 2) r.pick.score)) := by
  unfold PickReport.body flat PickReport.fixed
  simp only [List.flatMap_cons, List.flatMap_nil, List.append_nil, List.append_assoc]

theorem optPart_length {α : Type} {f : α → List Byte} {w : Nat} (length : ∀ a, (f a).length = w) (o : Option α) :
    (optPart f o).length = bit o.isSome w := by
  cases o with
  | none => rfl
  | some a => exact length a

theorem PickReport.carries_fixed (r : PickReport) : carriesFrom r.body 0 r.fixed := by
  rw [PickReport.body_eq]
  exact carriesFrom_flat (pre := []) r.fixed

theorem PickReport.fixed_length (r : PickReport) : (flat r.fixed).length = 37 := by
  simp [flat, PickReport.fixed]

theorem PickReport.body_length (r : PickReport) :
    r.body.length = 37 + bit r.pick.confirmedBy.isSome 1 + bit r.pick.coincident.isSome 2 + bit r.pick.score.isSome 2 := by
  rw [PickReport.body_eq, List.length_append, List.length_append, List.length_append, PickReport.fixed_length, optPart_length (w := 1) fun _ => field_length _ _,
    optPart_length (w := 2) fun _ => field_length _ _, optPart_length (w := 2) fun _ => signedField_length _ _, ← Nat.add_assoc, ← Nat.add_assoc]

theorem PickReport.carries_confirmedBy {r : PickReport} {k : Fin 8} (confirmed : r.pick.confirmedBy = some k) : carries r.body 37 1 k.val := by
  rw [PickReport.body_eq, confirmed]
  exact carries_later (off := 0) 37 (PickReport.fixed_length _) carries_here

theorem PickReport.carries_coincident {r : PickReport} {k : Nat} (coincident : r.pick.coincident = some k) :
    carries r.body (37 + bit r.pick.confirmedBy.isSome 1) 2 k := by
  rw [PickReport.body_eq, coincident]
  exact carries_later 37 (PickReport.fixed_length _) (carries_later (off := 0) _ (optPart_length (fun _ => field_length _ _) _) carries_here)

theorem PickReport.carries_score {r : PickReport} {x : Int} (score : r.pick.score = some x) :
    carries r.body (37 + bit r.pick.confirmedBy.isSome 1 + bit r.pick.coincident.isSome 2) 2 (twos 2 x) := by
  rw [PickReport.body_eq, score, Nat.add_assoc]
  exact carries_later 37 (PickReport.fixed_length _) (carries_later _ (optPart_length (fun _ => field_length _ _) _)
    (carries_later (off := 0) _ (optPart_length (fun _ => field_length _ _) _) carries_alone))

/-! ## EVNT (R189) -/

/-- The 14 bytes every EVNT has. -/
def EventReport.fixed (r : EventReport) : List (Nat × Nat) :=
  [(2, r.number), (1, bit r.cause.isSome 1), (1, closeCode r.cause), (6, r.first), (2, r.count), (1, r.flags), (1, r.presence)]

theorem EventReport.body_eq (r : EventReport) : r.body = flat r.fixed ++ (optPart Member.body r.p ++ (optPart Member.body r.s ++
    optPart (field 2) r.sp)) := by
  unfold EventReport.body flat EventReport.fixed
  simp only [List.flatMap_cons, List.flatMap_nil, List.append_nil, List.append_assoc]

theorem Member.body_length (m : Member) : m.body.length = 8 := by
  unfold Member.body
  rw [List.length_append, field_length, field_length]

theorem EventReport.carries_fixed (r : EventReport) : carriesFrom r.body 0 r.fixed := by
  rw [EventReport.body_eq]
  exact carriesFrom_flat (pre := []) r.fixed

theorem EventReport.fixed_length (r : EventReport) : (flat r.fixed).length = 14 := by
  simp [flat, EventReport.fixed]

theorem EventReport.body_length (r : EventReport) : r.body.length = 14 + bit r.p.isSome 8 + bit r.s.isSome 8 + bit r.sp.isSome 2 := by
  rw [EventReport.body_eq, List.length_append, List.length_append, List.length_append, EventReport.fixed_length, optPart_length Member.body_length,
    optPart_length Member.body_length, optPart_length (w := 2) fun _ => field_length _ _, ← Nat.add_assoc, ← Nat.add_assoc]

/-- A member, wherever it stands in a body: its number, then its onset. -/
theorem carries_member {pre rest : List Byte} {off : Nat} (m : Member) (place : pre.length = off) :
    carries (pre ++ (m.body ++ rest)) off 2 m.number ∧ carries (pre ++ (m.body ++ rest)) (off + 2) 6 m.onset := by
  unfold Member.body
  rw [List.append_assoc]
  exact ⟨carries_later (off := 0) off place carries_here, carries_later off place (carries_later (off := 0) 2 (field_length _ _) carries_here)⟩

theorem EventReport.carries_p {r : EventReport} {m : Member} (p : r.p = some m) : carries r.body 14 2 m.number ∧ carries r.body 16 6 m.onset := by
  rw [EventReport.body_eq, p]
  exact carries_member m (EventReport.fixed_length _)

theorem EventReport.carries_s {r : EventReport} {m : Member} (s : r.s = some m) :
    carries r.body (14 + bit r.p.isSome 8) 2 m.number ∧ carries r.body (14 + bit r.p.isSome 8 + 2) 6 m.onset := by
  rw [EventReport.body_eq, s, ← List.append_assoc]
  refine carries_member m ?_
  rw [List.length_append, EventReport.fixed_length, optPart_length Member.body_length]

theorem EventReport.carries_sp {r : EventReport} {k : Nat} (sp : r.sp = some k) :
    carries r.body (14 + bit r.p.isSome 8 + bit r.s.isSome 8) 2 k := by
  rw [EventReport.body_eq, sp, Nat.add_assoc]
  exact carries_later 14 (EventReport.fixed_length _) (carries_later _ (optPart_length Member.body_length _)
    (carries_later (off := 0) _ (optPart_length Member.body_length _) carries_alone))

/-! ## STRP and CNTP (R186, R187) -/

/-- The bytes of STRP before its lists. -/
def StatusReport.fixed (r : StatusReport) : List (Nat × Nat) :=
  [(1, r.input.code), (6, r.lastTime), (1, r.stateV.code), (2, r.ratioV), (1, r.stateH.code), (2, r.ratioH), (1, r.pending), (1, r.events)]

theorem StatusReport.body_eq (r : StatusReport) : r.body = flat r.fixed ++ (r.records.toList.flatMap (field 1) ++
    (r.credits.toList.flatMap (field 1) ++ (r.snips.toList.flatMap (fun x => field 1 x.code) ++
      r.sigs.toList.flatMap (fun x => field 1 x.code)))) := by
  unfold StatusReport.body flat StatusReport.fixed
  simp only [List.flatMap_cons, List.flatMap_nil, List.append_nil, List.append_assoc]

theorem StatusReport.carries_fixed (r : StatusReport) : carriesFrom r.body 0 r.fixed := by
  rw [StatusReport.body_eq]
  exact carriesFrom_flat (pre := []) r.fixed

theorem StatusReport.fixed_length (r : StatusReport) : (flat r.fixed).length = 15 := by
  simp [flat, StatusReport.fixed]

/-- One byte for each element: that of element `i` stands at `i`. -/
theorem carries_byteOf {α : Type} {f : α → Nat} {rest : List Byte} {l : List α} {a : α} {i : Nat} (at_ : l[i]? = some a) :
    carries (l.flatMap (fun x => field 1 (f x)) ++ rest) i 1 (f a) := by
  have less : i < l.length := (List.getElem?_eq_some_iff.mp at_).1
  refine carries_earlier ?_ ?_
  · rw [List.length_flatMap]
    simp only [field_length, List.map_const', List.sum_replicate, smul_eq_mul, Nat.mul_one]
    exact less
  · have here := carries_part (f := fun x => field 1 (f x)) (w := 1) (off := 0) (fun _ => field_length _ _) at_ (by decide) carries_alone
    rw [Nat.one_mul, Nat.add_zero] at here
    exact here

theorem flatMap_field_length {α : Type} (w : Nat) (f : α → Nat) (l : List α) : (l.flatMap fun a => field w (f a)).length = w * l.length := by
  rw [List.length_flatMap]
  simp only [field_length, List.map_const', List.sum_replicate, smul_eq_mul, Nat.mul_comm]

theorem flatMap_bytes_length (w : Nat) (l : List Nat) : (l.flatMap (field w)).length = w * l.length := flatMap_field_length w id l

theorem StatusReport.body_length (r : StatusReport) : r.body.length = 39 := by
  rw [StatusReport.body_eq, List.length_append, List.length_append, List.length_append, List.length_append, StatusReport.fixed_length,
    flatMap_bytes_length, flatMap_bytes_length, flatMap_field_length, flatMap_field_length]
  rfl

theorem StatusReport.carries_queue (r : StatusReport) (q : Fin 4) :
    carries r.body (15 + q.val) 1 (r.records.get q) ∧ carries r.body (19 + q.val) 1 (r.credits.get q) := by
  rw [StatusReport.body_eq]
  refine ⟨carries_later 15 r.fixed_length (carries_byteOf (Four.toList_get r.records q)), ?_⟩
  rw [show 19 + q.val = 15 + (4 + q.val) by omega]
  exact carries_later 15 r.fixed_length (carries_later 4 (flatMap_bytes_length 1 _) (carries_byteOf (Four.toList_get r.credits q)))

theorem StatusReport.carries_slot (r : StatusReport) (k : Fin 8) :
    carries r.body (23 + k.val) 1 (r.snips.get k).code ∧ carries r.body (31 + k.val) 1 (r.sigs.get k).code := by
  rw [StatusReport.body_eq, show 23 + k.val = 15 + (4 + (4 + k.val)) by omega, show 31 + k.val = 15 + (4 + (4 + (8 + k.val))) by omega]
  refine ⟨carries_later 15 r.fixed_length (carries_later 4 (flatMap_bytes_length 1 _) (carries_later 4 (flatMap_bytes_length 1 _) ?_)),
    carries_later 15 r.fixed_length (carries_later 4 (flatMap_bytes_length 1 _) (carries_later 4 (flatMap_bytes_length 1 _)
      (carries_later 8 (flatMap_field_length 1 _ _) ?_)))⟩
  · exact carries_byteOf (Eight.toList_get r.snips k)
  · rw [← List.append_nil (List.flatMap _ r.sigs.toList)]
    exact carries_byteOf (Eight.toList_get r.sigs k)

theorem Reply.cntp_body (cleared : Bool) (c : Counters) : (Reply.cntp cleared c).body = field 1 (bit cleared 1) ++ c.list.flatMap (field 4) := rfl

theorem Counters.carries_list (cleared : Bool) {c : Counters} {i v : Nat} (at_ : c.list[i]? = some v) :
    carries (Reply.cntp cleared c).body (1 + 4 * i) 4 v := by
  rw [Reply.cntp_body]
  exact carries_later 1 (field_length _ _) (carries_part (off := 0) (fun _ => field_length _ _) at_ (by decide) carries_alone)

theorem Counters.body_length (cleared : Bool) (c : Counters) : (Reply.cntp cleared c).body.length = 97 := by
  rw [Reply.cntp_body, List.length_append, field_length, flatMap_bytes_length]
  rfl

/-! ## SEGM (R149, R190) -/

/-- The 11 bytes every SEGM has. -/
def SnipSlot.segmentFixed (x : SnipSlot) (k : Nat) : List (Nat × Nat) :=
  [(2, x.pick), (1, k), (1, segFlags (x.isLast k) (x.isLast k && x.cut)), (6, x.segmentTime k), (1, (x.segment k).length)]

theorem SnipSlot.segmentBody_eq (x : SnipSlot) (k : Nat) :
    x.segmentBody k = flat (x.segmentFixed k) ++ (x.segment k).flatMap SnipTriple.body := by
  unfold SnipSlot.segmentBody flat SnipSlot.segmentFixed
  simp only [List.flatMap_cons, List.flatMap_nil, List.append_nil, List.append_assoc]

theorem SnipSlot.carries_fixed (x : SnipSlot) (k : Nat) : carriesFrom (x.segmentBody k) 0 (x.segmentFixed k) := by
  rw [SnipSlot.segmentBody_eq]
  exact carriesFrom_flat (pre := []) (x.segmentFixed k)

theorem SnipSlot.segmentFixed_length (x : SnipSlot) (k : Nat) : (flat (x.segmentFixed k)).length = 11 := by
  simp [flat, SnipSlot.segmentFixed]

theorem SnipTriple.body_length (t : SnipTriple) : t.body.length = 9 := by
  unfold SnipTriple.body
  rw [List.length_append, List.length_append, signedField_length, signedField_length, signedField_length]

theorem SnipTriple.carries_body (t : SnipTriple) : carries t.body 0 3 (twos 3 t.raw.z) ∧ carries t.body 3 3 (twos 3 t.raw.n) ∧
    carries t.body 6 3 (twos 3 t.raw.e) := by
  unfold SnipTriple.body
  rw [List.append_assoc]
  exact ⟨carries_here, carries_later (off := 0) 3 (field_length _ _) carries_here,
    carries_later 3 (field_length _ _) (carries_later (off := 0) 3 (field_length _ _) carries_alone)⟩

/-- Component number `o / 3` of triple `i` stands at `11 + 9 * i + o`. -/
theorem SnipSlot.carries_triple {x : SnipSlot} {k i o v : Nat} {t : SnipTriple} (at_ : (x.segment k)[i]? = some t) (within : o + 3 ≤ 9)
    (here : carries t.body o 3 v) : carries (x.segmentBody k) (11 + (9 * i + o)) 3 v := by
  rw [SnipSlot.segmentBody_eq]
  exact carries_later 11 (SnipSlot.segmentFixed_length _ _) (carries_part SnipTriple.body_length at_ within here)

theorem SnipSlot.segmentBody_length (x : SnipSlot) (k : Nat) : (x.segmentBody k).length = 11 + 9 * (x.segment k).length := by
  rw [SnipSlot.segmentBody_eq, List.length_append, SnipSlot.segmentFixed_length, List.length_flatMap, List.map_congr_left fun t _ => SnipTriple.body_length t,
    List.map_const', List.sum_replicate, smul_eq_mul, Nat.mul_comm]

/-- The segments together are the slot's triples. -/
theorem SnipSlot.segments (x : SnipSlot) (n : Nat) : (List.range n).flatMap x.segment = x.triples.take (n * x.size) := by
  induction n with
  | zero => rw [Nat.zero_mul, List.take_zero]; rfl
  | succ n ih =>
    rw [List.range_succ, List.flatMap_append, ih, List.flatMap_singleton, Nat.succ_mul, List.take_add]
    rfl

theorem SnipSlot.segmentTime_first {x : SnipSlot} {k : Nat} {t : SnipTriple} (first : (x.segment k).head? = some t) : x.segmentTime k = t.time := by
  simp only [SnipSlot.segmentTime, first]

theorem SnipSlot.segmentTime_closing {x : SnipSlot} {k : Nat} {t : SnipTriple} (none : x.segment k = []) (last : x.triples.getLast? = some t) :
    x.segmentTime k = t.time := by
  simp only [SnipSlot.segmentTime, none, last, List.head?_nil]

/-- A count read back from the field that carries its two's complement. -/
theorem signed_of_carries {bs : List Byte} {off : Nat} {x : Int} (count : isCount x) (there : carries bs off 3 (twos 3 x)) :
    signed24 (beVal ((bs.drop off).take 3)) = x := by
  obtain ⟨fits, same⟩ := twos_count count
  rw [there fits, same]

/-- Settles O53: each body is its list of fields, so that a field stands behind the widths of those before it. -/
theorem messageBodiesHaveTheirLayout : Obligations.MessageBodiesHaveTheirLayout := by
  unfold Obligations.MessageBodiesHaveTheirLayout
  intro flag
  refine ⟨⟨fun n v fits => ⟨field_length n v, beVal_field fits⟩, fun x count => ⟨signedField_length 3 x, ?_⟩⟩,
    fun r => ?_, fun r => ?_, fun r => ?_, fun cleared c => ?_, fun x k => ?_, SnipSlot.segments⟩
  · obtain ⟨fits, same⟩ := twos_count count
    rw [signedField_eq, beVal_field fits, same]
  · intro p b phase atPick atScore
    obtain ⟨number, kind, source, phase, classification, onset, trigger, grade, polarity, snr, hv, peak, component, offset, measured, event,
      role, flags, presence, -⟩ := r.carries_fixed
    exact ⟨r.body_length, number, kind, source, phase, classification, onset, trigger, grade, polarity, snr, hv, peak, component, offset,
      measured, event, role, flags, presence, fun k confirmed => PickReport.carries_confirmedBy confirmed,
      fun k coincident => PickReport.carries_coincident coincident, fun x score _ _ => twos_two x ▸ PickReport.carries_score score⟩
  · intro b atS atSp
    obtain ⟨number, closed, cause, first, count, flags, presence, -⟩ := r.carries_fixed
    exact ⟨r.body_length, number, closed, cause, first, count, flags, presence, fun m p => EventReport.carries_p p,
      fun m s => EventReport.carries_s s, fun k sp => EventReport.carries_sp sp⟩
  · intro b state
    obtain ⟨input, lastTime, stateV, ratioV, stateH, ratioH, pending, events, -⟩ := r.carries_fixed
    exact ⟨r.body_length, input, lastTime, stateV, ratioV, stateH, ratioH, pending, events, r.carries_queue, r.carries_slot⟩
  · intro b
    exact ⟨Counters.body_length cleared c, carries_here, fun i v at_ => Counters.carries_list cleared at_⟩
  · intro b ts
    obtain ⟨pick, number, flags, time, count, -⟩ := x.carries_fixed k
    refine ⟨x.segmentBody_length k, List.length_take_le _ _, pick, number, flags, fun t first => ?_, fun t none last => ?_, count, fun i t at_ => ?_⟩
    · rw [SnipSlot.segmentTime_first first] at time
      exact time
    · rw [SnipSlot.segmentTime_closing none last] at time
      exact time
    · intro raw
      obtain ⟨z, n, e⟩ := t.carries_body
      have place (o : Nat) : 11 + o + 9 * i = 11 + (9 * i + o) := by omega
      refine ⟨fun count => ?_, fun count => ?_, fun count => ?_⟩
      · exact signed_of_carries count (place 0 ▸ SnipSlot.carries_triple at_ (by decide) z)
      · exact signed_of_carries count (place 3 ▸ SnipSlot.carries_triple at_ (by decide) n)
      · exact signed_of_carries count (place 6 ▸ SnipSlot.carries_triple at_ (by decide) e)

end Sys2Proof.Machine
end

section
/-! FLSH, STAT and CNTR (R17, R126, R180 to R182). -/

namespace Sys2Proof.Machine

section Messages

variable {s : State} {m : InMsg}

theorem State.raiseSignal_feeds (s : State) (c : Cause) :
    (s.raiseSignal c).feeds = s.feeds.map fun f => { f with signals := f.signals ++ [⟨c, s.ring.written⟩] } := rfl

theorem State.holdsFlush_iff (s : State) :
    s.feeds.any Feed.holdsFlush = true ↔ ∃ f ∈ s.feeds, ∃ g ∈ f.signals, g.cause = .flush := by
  simp only [List.any_eq_true, Feed.holdsFlush, beq_iff_eq]

theorem State.finishFlush_places (flushing : s.flushing = true) (taken : ∀ f ∈ s.feeds, ∀ g ∈ f.signals, g.cause ≠ .flush) :
    s.finishFlush = { s with flushing := false, link := { s.link with replies := s.link.replies ++ [.ackn 0x02 false false 0] } } := by
  have none : s.feeds.any Feed.holdsFlush = false := by
    rw [← Bool.not_eq_true, State.holdsFlush_iff]
    rintro ⟨f, feed, g, signal, flush⟩
    exact taken f feed g signal flush
  unfold State.finishFlush
  rw [if_pos (by rw [flushing, none]; rfl)]

theorem State.finishFlush_waits (wait : s.flushing = false ∨ ∃ f ∈ s.feeds, ∃ g ∈ f.signals, g.cause = .flush) : s.finishFlush = s := by
  unfold State.finishFlush
  refine if_neg ?_
  rcases wait with idle | held
  · rw [idle]
    exact Bool.false_ne_true
  · rw [(State.holdsFlush_iff s).mpr held, Bool.not_true, Bool.and_false]
    exact Bool.false_ne_true

theorem exec_flsh (head : s.decodes m) (complete : m.status = .complete) (code : m.code = 0x02) :
    exec .flsh s = .next { s.popMessage.raiseSignal .flush with flushing := true, port := { s.port with flushNote := true } } :=
  congrArg Host.Outcome.next (State.live_action head code rfl complete (Nat.zero_le _))

theorem statOwners_of_complete (complete : m.status = .complete) : statOwners m s = (s.detV.due.isNone && s.detH.due.isNone) := by
  unfold statOwners InMsg.isBroken
  rw [complete]
  rfl

theorem exec_stat (head : s.decodes m) (complete : m.status = .complete) (code : m.code = 0x03) (dueV : s.detV.due = none)
    (dueH : s.detH.due = none) : exec .stat s = .next (s.popMessage.reply (.strp s.status)) :=
  congrArg Host.Outcome.next (State.live_action head code (by rw [statOwners_of_complete complete, dueV, dueH]; rfl) complete (Nat.zero_le _))

/-- STAT waits while a detector has the second half of a triple due (logs 4 and 25). -/
theorem exec_stat_waits (head : s.decodes m) (complete : m.status = .complete) (due : s.detV.due ≠ none ∨ s.detH.due ≠ none) :
    exec .stat s = .next s := by
  have busy : statOwners m s = false := by
    rw [statOwners_of_complete complete, Bool.and_eq_false_iff, Option.isNone_eq_false_iff, Option.isNone_eq_false_iff,
      Option.isSome_iff_ne_none, Option.isSome_iff_ne_none]
    exact due
  change Host.Outcome.next (s.live _) = _
  rw [State.live_same]
  unfold State.decode
  rw [State.decodes_oldest head]
  simp only [busy, Bool.and_false, Bool.false_eq_true, if_false]

theorem State.status_lastTime (s : State) : s.status.lastTime = match s.ring.held with | [] => 0 | t :: _ => t.time := by
  unfold State.status
  cases s.ring.held <;> rfl

theorem exec_cntr (head : s.decodes m) (complete : m.status = .complete) (code : m.code = 0x04) {b : Byte} {rest : List Byte}
    (body : m.body = b :: rest) : exec .cntr s = .next (({ s.popMessage with
      queues := s.queues.map fun q => { q with lossNote := false }, counters := if b ≠ 0 then Counters.zero else s.counters } : State).reply
        (.cntp (decide (b ≠ 0)) s.counters)) := by
  have taken : exec .cntr s = .next (takeCntr m s.popMessage) := congrArg Host.Outcome.next
    (State.live_action head code rfl complete (by rw [body]; exact Nat.succ_le_succ (Nat.zero_le _)))
  have asked : decide (m.at 0 ≠ 0) = decide (b ≠ 0) := by
    rw [InMsg.at_zero body]
    exact decide_eq_decide.mpr (not_congr ⟨fun zero => BitVec.eq_of_toNat_eq zero, fun zero => congrArg BitVec.toNat zero⟩)
  rw [taken, takeCntr, asked]
  by_cases zero : b ≠ 0
  · rw [if_pos zero, decide_eq_true zero]
    rfl
  · rw [if_neg zero, decide_eq_false zero]
    rfl

end Messages

/-- Settles O50: FLSH raises its signal on the six feeds; STAT and CNTR are taken from the state without the message. -/
theorem flshStatAndCntrOverTheWholePart : Obligations.FlshStatAndCntrOverTheWholePart := by
  unfold Obligations.FlshStatAndCntrOverTheWholePart
  refine ⟨fun s c => ⟨s.raiseSignal_feeds c, _, _, _, _, _, _, rfl⟩, fun s => ⟨State.finishFlush_places, State.finishFlush_waits⟩,
    fun s m head complete => ⟨exec_flsh head complete, fun code => ⟨fun dueV dueH => ?_, exec_stat_waits head complete⟩, fun code b rest body => ?_⟩⟩
  · exact ⟨s.status, exec_stat head complete code dueV dueH, rfl, s.status_lastTime, rfl, rfl, rfl, rfl, rfl, rfl,
      fun q => ⟨Four.get_map _ _ _, Four.get_map _ _ _⟩, fun n => ⟨Eight.get_map _ _ _, Eight.get_map _ _ _⟩⟩
  · refine ⟨_, _, exec_cntr head complete code body, fun zero => if_neg (not_not.mpr zero), fun asked => ?_, fun q => Four.get_map _ _ _⟩
    rw [if_pos asked]
    decide

end Sys2Proof.Machine
end

section
/-! Inbound characters (R157 to R160). -/

namespace Sys2Proof.Machine

/-! ## Breaking the message in progress (R159) -/

section Characters

variable {s : State} {front : List InMsg} {m : InMsg} {b : Byte}

theorem LinkPort.inProgress_snoc (inbox : s.link.inbox = front ++ [m]) (unended : m.status = .inProgress) : s.link.inProgress = some m := by
  unfold LinkPort.inProgress
  rw [inbox, List.getLast?_concat]
  exact if_pos unended

theorem LinkPort.inProgress_none (closed : ∀ m, s.link.inbox.getLast? = some m → m.status ≠ .inProgress) : s.link.inProgress = none := by
  unfold LinkPort.inProgress
  cases newest : s.link.inbox.getLast? with
  | none => rfl
  | some m => exact if_neg (closed m newest)

theorem LinkPort.setLast_snoc (inbox : s.link.inbox = front ++ [m]) (m' : InMsg) : s.link.setLast m' = { s.link with inbox := front ++ [m'] } := by
  unfold LinkPort.setLast
  rw [inbox, List.dropLast_concat]

theorem State.breakMessage_open (inbox : s.link.inbox = front ++ [m]) (unended : m.status = .inProgress) : s.breakMessage = { s with
    link := { s.link with inbox := front ++ [{ m with status := .broken }] }
    counters := { s.counters with linkBrokenMessages := min 4294967295 (s.counters.linkBrokenMessages + 1) } } := by
  unfold State.breakMessage
  rw [LinkPort.inProgress_snoc inbox unended]
  dsimp only
  rw [LinkPort.setLast_snoc inbox]
  rfl

theorem State.breakMessage_none (closed : ∀ m, s.link.inbox.getLast? = some m → m.status ≠ .inProgress) : s.breakMessage = s := by
  unfold State.breakMessage
  rw [LinkPort.inProgress_none closed]

/-- A broken message takes the room it took in progress. -/
theorem State.breakMessage_fill (s : State) : s.breakMessage.link.fill = s.link.fill := s.breakMessage_bytes

/-! ## The character judged (R157, R158) -/

theorem exec_linkCharacter_looking (high : s.resetLow = false) (looking : s.link.watch = .looking) (mark : Bool) (b : Byte) (stop : Bool) :
    exec (.linkCharacter mark b stop) s = .next (if stop then s.takeCharacter mark b
      else if !mark && b == 0 then { s with link := { s.link with watch := .undecided } } else s.framingError) := by
  change Host.Outcome.next (s.live _) = _
  rw [State.live_high high, State.linkCharacter, if_neg (not_not.mpr looking)]

theorem exec_linkCharacter_away (away : s.link.watch ≠ .looking) (mark : Bool) (b : Byte) (stop : Bool) :
    exec (.linkCharacter mark b stop) s = .next s := by
  change Host.Outcome.next (s.live _) = _
  rw [State.live_same (f := fun s => s.linkCharacter mark b stop) (if_pos away)]

theorem State.takeCharacter_opener (notHold : b ≠ 0xFE) (notGo : b ≠ 0xFF) : s.takeCharacter true b = s.opener b := by
  unfold State.takeCharacter
  rw [if_pos rfl, if_neg notHold, if_neg notGo]

theorem LinkPort.full_iff (l : LinkPort) : l.full = true ↔ 256 ≤ l.fill := decide_eq_true_iff

theorem State.opener_room (room : s.link.fill < 256) (b : Byte) : s.opener b = { s.breakMessage with
    link := ({ s.breakMessage.link with inbox := s.breakMessage.link.inbox ++ [⟨b, none, [], .inProgress⟩] } : LinkPort).afterStore } := by
  rw [← State.breakMessage_fill] at room
  exact if_neg fun full => absurd ((LinkPort.full_iff _).mp full) (Nat.not_le.mpr room)

theorem State.opener_full (full : 256 ≤ s.link.fill) (b : Byte) : s.opener b = s.breakMessage.linkOverrun := by
  rw [← State.breakMessage_fill] at full
  exact if_pos ((LinkPort.full_iff _).mpr full)

theorem State.dataCharacter_stray (closed : ∀ m, s.link.inbox.getLast? = some m → m.status ≠ .inProgress) : s.dataCharacter b = s := by
  unfold State.dataCharacter
  rw [LinkPort.inProgress_none closed]

theorem State.dataCharacter_full (inbox : s.link.inbox = front ++ [m]) (unended : m.status = .inProgress) (full : 256 ≤ s.link.fill) :
    s.dataCharacter b = s.linkOverrun.breakMessage := by
  unfold State.dataCharacter
  rw [LinkPort.inProgress_snoc inbox unended]
  exact if_pos ((LinkPort.full_iff _).mpr full)

theorem State.dataCharacter_room (inbox : s.link.inbox = front ++ [m]) (unended : m.status = .inProgress) (room : s.link.fill < 256) :
    s.dataCharacter b = { s with
      link := ({ s.link with inbox := front ++ [m.take b] } : LinkPort).afterStore, counters := s.counters.broken (m.take b) } := by
  unfold State.dataCharacter
  rw [LinkPort.inProgress_snoc inbox unended]
  dsimp only
  rw [if_neg fun full => absurd ((LinkPort.full_iff _).mp full) (Nat.not_le.mpr room), LinkPort.setLast_snoc inbox]

theorem InMsg.take_length (first : m.length = none) : m.take b = { m with
    length := some b.toNat, status := if b.toNat = 0 then .complete else if 250 < b.toNat then .broken else .inProgress } := by
  unfold InMsg.take
  rw [first]
  dsimp only
  by_cases long : b.toNat ≤ Config.maxBody
  · rw [if_pos long, if_neg (Nat.not_lt.mpr long)]
  · rw [if_neg long, if_pos (Nat.not_le.mp long)]

theorem InMsg.take_body {n : Nat} (length : m.length = some n) : m.take b = { m with
    body := m.body ++ [b], status := if n ≤ m.body.length + 1 then .complete else .inProgress } := by
  unfold InMsg.take
  rw [length]

end Characters

/-- Settles O48: a character is judged by the watch, its stop bit and its kind; each kind has its lemma. -/
theorem linkCharacterBuildsMessages : Obligations.LinkCharacterBuildsMessages := by
  unfold Obligations.LinkCharacterBuildsMessages
  refine ⟨fun s front m inbox unended => State.breakMessage_open inbox unended, fun s closed => State.breakMessage_none closed,
    fun s b high => ⟨fun away mark stop => exec_linkCharacter_away away mark b stop, fun looking => ?_⟩⟩
  have judged := exec_linkCharacter_looking high looking
  intro s1 overrun
  refine ⟨fun notHold notGo => ⟨fun room => ?_, fun full => ?_⟩, fun closed => ?_, fun front m inbox unended => ?_, fun mark some_ => ?_, ?_⟩
  · rw [judged, if_pos rfl, State.takeCharacter_opener notHold notGo, State.opener_room room]
  · rw [judged, if_pos rfl, State.takeCharacter_opener notHold notGo, State.opener_full full]
    rfl
  · rw [judged, if_pos rfl]
    exact congrArg Host.Outcome.next (State.dataCharacter_stray closed)
  · have data : exec (.linkCharacter false b true) s = .next (s.dataCharacter b) := by rw [judged, if_pos rfl]; rfl
    intro now
    refine ⟨fun full => ?_, fun room first => ?_, fun n room length => ?_⟩
    · rw [data, State.dataCharacter_full inbox unended full]
      rfl
    · rw [data, State.dataCharacter_room inbox unended room, InMsg.take_length first]
      rfl
    · rw [data, State.dataCharacter_room inbox unended room, InMsg.take_body length]
      rfl
  · have judgedNow : (!mark && b == 0) = false := by
      rcases some_ with rfl | nonzero
      · rfl
      · rw [beq_false_of_ne nonzero, Bool.and_false]
    rw [judged, if_neg Bool.false_ne_true, if_neg (by rw [judgedNow]; exact Bool.false_ne_true)]
    rfl
  · rw [exec_linkCharacter_looking high looking]
    rfl

end Sys2Proof.Machine
end

section
/-! Line events and flow control (R157, R161, R167, R173). -/

namespace Sys2Proof.Machine

/-! ## The outbound line (R167, R173) -/

section Line

variable {l : LinkPort} {s : State}

/-- The next character of the message being sent begins, where there is one. -/
def LinkPort.goes (l : LinkPort) : LinkPort :=
  match l.rest with
  | [] => l
  | c :: cs => { l with current := some c, rest := cs }

theorem LinkPort.resume_goes (idle : l.current = none) (noFlow : l.flow = none) (go : l.peerHold = false) : l.resume = l.goes := by
  unfold LinkPort.resume
  rw [if_pos (by rw [idle, noFlow, go]; rfl)]
  rfl

theorem LinkPort.resume_stays (held : l.current ≠ none ∨ l.flow ≠ none ∨ l.peerHold = true) : l.resume = l := by
  unfold LinkPort.resume
  refine if_neg ?_
  rw [Bool.and_eq_true, Bool.and_eq_true, Option.isNone_iff_eq_none, Option.isNone_iff_eq_none, Bool.not_eq_true']
  rintro ⟨⟨idle, noFlow⟩, go⟩
  rcases held with busy | flow | hold
  · exact busy idle
  · exact flow noFlow
  · exact Bool.false_ne_true (go.symm.trans hold)

/-! ## Own HOLD and GO (R161) -/

theorem LinkPort.afterStore_holds (go : l.ownHold = false) (full : 192 ≤ l.fill) : l.afterStore =
    if l.flow = some .go then { l with ownHold := true, flow := none }.resume else { l with ownHold := true, flow := some .hold } := by
  unfold LinkPort.afterStore
  rw [if_pos (by rw [go, Bool.not_false, Bool.and_true, decide_eq_true_iff]; exact full)]

theorem LinkPort.afterStore_stays (stay : l.ownHold = true ∨ l.fill < 192) : l.afterStore = l := by
  unfold LinkPort.afterStore
  refine if_neg ?_
  rw [Bool.and_eq_true, decide_eq_true_iff, Bool.not_eq_true']
  rintro ⟨full, go⟩
  rcases stay with held | room
  · exact Bool.false_ne_true (go.symm.trans held)
  · exact absurd full (Nat.not_le.mpr room)

theorem LinkPort.afterDecode_goes (held : l.ownHold = true) (room : l.fill ≤ 64) : l.afterDecode =
    if l.flow = some .hold then { l with ownHold := false, flow := none }.resume else { l with ownHold := false, flow := some .go } := by
  unfold LinkPort.afterDecode
  rw [if_pos (by rw [held, Bool.and_true, decide_eq_true_iff]; exact room)]

theorem LinkPort.afterDecode_stays (stay : l.ownHold = false ∨ 64 < l.fill) : l.afterDecode = l := by
  unfold LinkPort.afterDecode
  refine if_neg ?_
  rw [Bool.and_eq_true, decide_eq_true_iff]
  rintro ⟨room, held⟩
  rcases stay with go | full
  · exact Bool.false_ne_true (go.symm.trans held)
  · exact absurd room (Nat.not_le.mpr full)

theorem LinkPort.sendFlow_sends {f : Flow} (idle : l.current = none) (waits : l.flow = some f) :
    l.sendFlow f = { l with current := some f.char, flow := none } := by
  unfold LinkPort.sendFlow
  rw [if_pos (by rw [idle, waits, beq_self_eq_true]; rfl)]

theorem LinkPort.sendFlow_stays {f : Flow} (stay : l.current ≠ none ∨ l.flow ≠ some f) : l.sendFlow f = l := by
  unfold LinkPort.sendFlow
  refine if_neg ?_
  rw [Bool.and_eq_true, Option.isNone_iff_eq_none, beq_iff_eq]
  exact fun both => stay.elim (· both.1) (· both.2)

/-! ## The line events (R157) -/

theorem State.live_next (high : s.resetLow = false) (f : State → State) : Host.Outcome.next (s.live f) = (.next (f s) : Answer) :=
  congrArg Host.Outcome.next (State.live_high high f)

theorem State.returnToMark_undecided (undecided : s.link.watch = .undecided) :
    s.returnToMark = { s.framingError with link := { s.framingError.link with watch := .looking } } := by
  unfold State.returnToMark
  rw [undecided]

theorem State.returnToMark_await (await : s.link.watch = .awaitMark) : s.returnToMark = { s with link := { s.link with watch := .looking } } := by
  unfold State.returnToMark
  rw [await]

theorem State.returnToMark_looking (looking : s.link.watch = .looking) : s.returnToMark = s := by
  unfold State.returnToMark
  rw [looking]

end Line

/-- Settles O49: the line, its flow characters and the watch, each by its rule. -/
theorem lineEventsAndFlowControl : Obligations.LineEventsAndFlowControl := by
  unfold Obligations.LineEventsAndFlowControl
  intro goes
  refine ⟨fun l => ⟨LinkPort.resume_goes, LinkPort.resume_stays, fun go full => ⟨fun waits => ?_, fun other => ?_⟩, LinkPort.afterStore_stays,
    fun held room => ⟨fun waits => ?_, fun other => ?_⟩, LinkPort.afterDecode_stays⟩, fun s r => rfl, State.popMessage_eq, fun s high => ?_⟩
  · rw [LinkPort.afterStore_holds go full, if_pos waits]
  · rw [LinkPort.afterStore_holds go full, if_neg other]
  · rw [LinkPort.afterDecode_goes held room, if_pos waits]
  · rw [LinkPort.afterDecode_goes held room, if_neg other]
  · intro looks
    have next := State.live_next high
    refine ⟨fun away => ?_, fun await => ⟨?_, ?_⟩, fun undecided => ?_, fun looking => ⟨?_, ?_⟩, fun away => ⟨?_, ?_⟩, fun idle waits => ?_,
      fun idle waits => ?_, fun stay => ?_, fun stay => ?_, fun busy => ?_, fun idle => ?_⟩
    · exact (next _).trans (congrArg Host.Outcome.next (if_neg away))
    · exact (next _).trans (congrArg Host.Outcome.next (if_pos await))
    · exact (next _).trans (congrArg Host.Outcome.next (State.returnToMark_await await))
    · exact (next _).trans (congrArg Host.Outcome.next (State.returnToMark_undecided undecided))
    · exact (next _).trans (congrArg Host.Outcome.next (State.returnToMark_looking looking))
    · intro held gone
      exact ⟨(next _).trans (congrArg Host.Outcome.next (if_pos looking)), exec_linkCharacter_looking high looking true 0xFE true,
        (next _).trans (congrArg Host.Outcome.next (if_pos looking)), exec_linkCharacter_looking high looking true 0xFF true⟩
    · exact (next _).trans (congrArg Host.Outcome.next (if_neg away))
    · exact (next _).trans (congrArg Host.Outcome.next (if_neg away))
    · exact (next _).trans (congrArg (fun l => Host.Outcome.next { s with link := l }) (LinkPort.sendFlow_sends idle waits))
    · exact (next _).trans (congrArg (fun l => Host.Outcome.next { s with link := l }) (LinkPort.sendFlow_sends idle waits))
    · exact (next _).trans (congrArg (fun l => Host.Outcome.next { s with link := l }) (LinkPort.sendFlow_stays stay))
    · exact (next _).trans (congrArg (fun l => Host.Outcome.next { s with link := l }) (LinkPort.sendFlow_stays stay))
    · exact (next _).trans (congrArg Host.Outcome.next (if_pos (Option.isSome_iff_ne_none.mpr busy)))
    · exact (next _).trans (congrArg Host.Outcome.next (if_neg (by rw [idle]; exact Bool.false_ne_true)))

end Sys2Proof.Machine
end

section
/-! The outbound arbiter: REDY, replies and notices (R166, R168 to R172, R184 to R187). -/

namespace Sys2Proof.Machine

/-! ## Notices (R169, R170) -/

theorem raiseNotice_new {ns : List PendingNotice} {n : Notice} (fresh : ∀ p ∈ ns, p.notice ≠ n) : raiseNotice ns n = ns ++ [⟨n, 1⟩] := by
  unfold raiseNotice
  refine if_neg ?_
  rw [List.any_eq_true]
  rintro ⟨p, mem, same⟩
  exact fresh p mem (beq_iff_eq.mp same)

theorem raiseNotice_again {ns : List PendingNotice} {n : Notice} (pending : ∃ p ∈ ns, p.notice = n) : raiseNotice ns n =
    ns.map fun p => if p.notice = n then { p with count := min 255 (p.count + 1) } else p := by
  obtain ⟨p, mem, same⟩ := pending
  unfold raiseNotice
  rw [if_pos (List.any_eq_true.mpr ⟨p, mem, by rw [same]; exact beq_self_eq_true n⟩)]
  exact List.map_congr_left fun p _ => if_congr beq_iff_eq rfl rfl

/-! ## The choice (R172) -/

section Choice

variable {s : State}

theorem LinkPort.free_iff (l : LinkPort) : l.free = true ↔ l.current = none ∧ l.rest = [] ∧ l.flow = none ∧ l.peerHold = false := by
  unfold LinkPort.free
  rw [Bool.and_eq_true, Bool.and_eq_true, Bool.and_eq_true, Option.isNone_iff_eq_none, Option.isNone_iff_eq_none, List.isEmpty_iff,
    Bool.not_eq_true', and_assoc, and_assoc]

theorem State.choice_busy (busy : ¬s.link.free = true) : s.choice = none := if_neg busy

theorem State.choice_redy (free : s.link.free = true) {c : ResetCause} (redy : s.link.redy = some c) : s.choice = some (.redy c) := by
  rw [State.choice, if_pos free, redy]

theorem State.choice_reply (free : s.link.free = true) (redy : s.link.redy = none) {r : Reply} {rs : List Reply}
    (replies : s.link.replies = r :: rs) : s.choice = some (.reply r) := by
  rw [State.choice, if_pos free, redy, replies]

theorem State.choice_notice (free : s.link.free = true) (redy : s.link.redy = none) (replies : s.link.replies = []) {n : PendingNotice}
    {ns : List PendingNotice} (notices : s.link.notices = n :: ns) : s.choice = some (.notice n) := by
  rw [State.choice, if_pos free, redy, replies, notices]

theorem State.choice_of_record (free : s.link.free = true) (redy : s.link.redy = none) (replies : s.link.replies = [])
    (notices : s.link.notices = []) : s.choice = s.offeredRecord.map fun p => .record p.1 p.2 := by
  rw [State.choice, if_pos free, redy, replies, notices]

/-- The command that takes a choice. -/
def Choice.taker : Choice → Instr
  | .redy _ => .redy
  | .reply (.ackn ..) => .ackn
  | .reply (.rfsd ..) => .rfsd
  | .reply (.strp ..) => .strp
  | .reply (.cntp ..) => .cntp
  | .notice _ => .note
  | .record _ (.pick _) => .pick
  | .record _ (.evnt _) => .evnt
  | .record _ (.item ..) => .segm

/-- The arbiter's commands. -/
def arbiterCommands : List Instr := [.redy, .ackn, .rfsd, .strp, .cntp, .note, .pick, .evnt, .segm]

theorem exec_arbiter_stays {i : Instr} (mem : i ∈ arbiterCommands) (other : ∀ c, s.choice = some c → c.taker ≠ i) : exec i s = .next s := by
  have stays {f : State → State} (same : f s = s) : Host.Outcome.next (s.live f) = (.next s : Answer) :=
    congrArg Host.Outcome.next (State.live_same same)
  simp only [arbiterCommands, List.mem_cons, List.not_mem_nil, or_false] at mem
  rcases mem with rfl | rfl | rfl | rfl | rfl | rfl | rfl | rfl | rfl
  · exact stays (f := State.takeRedy) (by unfold State.takeRedy; split; exacts [absurd rfl (other _ ‹_›), rfl])
  · exact stays (f := State.takeAckn) (by unfold State.takeAckn; split; exacts [absurd rfl (other _ ‹_›), rfl])
  · exact stays (f := State.takeRfsd) (by unfold State.takeRfsd; split; exacts [absurd rfl (other _ ‹_›), rfl])
  · exact stays (f := State.takeStrp) (by unfold State.takeStrp; split; exacts [absurd rfl (other _ ‹_›), rfl])
  · exact stays (f := State.takeCntp) (by unfold State.takeCntp; split; exacts [absurd rfl (other _ ‹_›), rfl])
  · exact stays (f := State.takeNote) (by unfold State.takeNote; split; exacts [absurd rfl (other _ ‹_›), rfl])
  · exact stays (f := State.takePickRecord) (by unfold State.takePickRecord; split; exacts [absurd rfl (other _ ‹_›), rfl])
  · exact stays (f := State.takeEvntRecord) (by unfold State.takeEvntRecord; split; exacts [absurd rfl (other _ ‹_›), rfl])
  · exact stays (f := State.takeSegmRecord) (by unfold State.takeSegmRecord; split; exacts [absurd rfl (other _ ‹_›), rfl])

/-- The commands that take a reply, and those that take a record. -/
def replyCommands : List Instr := [.ackn, .rfsd, .strp, .cntp]
def recordCommands : List Instr := [.pick, .evnt, .segm]

theorem not_mem_replyCommands : ∀ i ∈ Instr.note :: recordCommands, i ∉ replyCommands := by decide

theorem Choice.taker_reply (r : Reply) : (Choice.reply r).taker ∈ replyCommands := by
  cases r <;> simp only [Choice.taker] <;> decide

theorem Choice.taker_record (i : Fin 4) (r : Record) : (Choice.record i r).taker ∈ recordCommands := by
  cases r <;> simp only [Choice.taker] <;> decide

theorem State.choice_below_replies (free : s.link.free = true) (redy : s.link.redy = none) (replies : s.link.replies = []) {c : Choice}
    (chosen : s.choice = some c) : c.taker ∈ .note :: recordCommands := by
  cases notices : s.link.notices with
  | cons n ns =>
    rw [State.choice_notice free redy replies notices] at chosen
    rw [← Option.some.inj chosen]
    exact List.mem_cons_self
  | nil =>
    rw [State.choice_of_record free redy replies notices, Option.map_eq_some_iff] at chosen
    obtain ⟨p, -, rfl⟩ := chosen
    exact List.mem_cons_of_mem _ (Choice.taker_record _ _)

theorem State.choice_below_redy (free : s.link.free = true) (redy : s.link.redy = none) {c : Choice} (chosen : s.choice = some c) :
    c.taker ∈ replyCommands ++ .note :: recordCommands := by
  cases replies : s.link.replies with
  | cons r rs =>
    rw [State.choice_reply free redy replies] at chosen
    rw [← Option.some.inj chosen]
    exact List.mem_append_left _ (Choice.taker_reply r)
  | nil => exact List.mem_append_right _ (State.choice_below_replies free redy replies chosen)

/-- The command of another kind waits while a choice stands. -/
theorem exec_arbiter_waits {i : Instr} {c : Choice} (mem : i ∈ arbiterCommands) (chosen : s.choice = some c) (other : c.taker ≠ i) :
    exec i s = .next s :=
  exec_arbiter_stays mem fun d is => by rw [Option.some.inj (is.symm.trans chosen)]; exact other

/-! ## What is sent (R184 to R187) -/

theorem exec_redy (high : s.resetLow = false) {c : ResetCause} (chosen : s.choice = some (.redy c)) :
    exec .redy s = .next (({ s with link := { s.link with redy := none } } : State).send 0x49 c.body) := by
  refine (State.live_next high _).trans (congrArg Host.Outcome.next ?_)
  rw [State.takeRedy, chosen]

theorem exec_reply (high : s.resetLow = false) {r : Reply} (chosen : s.choice = some (.reply r)) :
    exec (Choice.reply r).taker s = .next (s.sendReply r) := by
  cases r with
  | ackn => exact (State.live_next high _).trans (congrArg Host.Outcome.next (by rw [State.takeAckn, chosen]))
  | rfsd => exact (State.live_next high _).trans (congrArg Host.Outcome.next (by rw [State.takeRfsd, chosen]))
  | strp => exact (State.live_next high _).trans (congrArg Host.Outcome.next (by rw [State.takeStrp, chosen]))
  | cntp => exact (State.live_next high _).trans (congrArg Host.Outcome.next (by rw [State.takeCntp, chosen]))

theorem exec_note (high : s.resetLow = false) {n : PendingNotice} (chosen : s.choice = some (.notice n)) :
    exec .note s = .next (({ s with link := { s.link with notices := s.link.notices.tail } } : State).send 0x48 n.body) := by
  refine (State.live_next high _).trans (congrArg Host.Outcome.next ?_)
  rw [State.takeNote, chosen]

theorem field_byte {v : Nat} (small : v < 256) : field 1 v = [BitVec.ofNat 8 v] := by
  rw [field, if_pos (by rw [Nat.pow_one]; exact small), beBytes, beBytes, Nat.pow_zero, Nat.div_one]

theorem ResetCause.body_eq (c : ResetCause) : c.body = [1, match c with | .pin => 1 | .command => 2] := by
  cases c <;> rfl

theorem Reply.body_rfsd (code : Byte) (reason : Reason) : (Reply.rfsd code reason).body =
    [code, match reason with | .unknown => 1 | .short => 2 | .state => 3 | .slot => 4] := by
  cases reason <;> rfl

theorem Reply.body_cntp (cleared : Bool) (c : Counters) : (Reply.cntp cleared c).body =
    (if cleared = true then 1 else 0) :: c.list.flatMap (field 4) := by
  cases cleared <;> rfl

theorem PendingNotice.body_eq (p : PendingNotice) : p.body = (match p.notice with
    | .inputFound => [1, 0]
    | .inputLost => [2, 0]
    | .starved q => [3, BitVec.ofNat 8 q.val]
    | .poolLoss q => [4, BitVec.ofNat 8 q.val]) ++ field 1 p.count := by
  have byte (q : Fin 4) : field 1 q.val = [BitVec.ofNat 8 q.val] := field_byte (by omega)
  unfold PendingNotice.body
  cases p.notice with
  | inputFound => rfl
  | inputLost => rfl
  | starved q => exact congrArg (fun b => field 1 3 ++ b ++ field 1 p.count) (byte q)
  | poolLoss q => exact congrArg (fun b => field 1 4 ++ b ++ field 1 p.count) (byte q)

end Choice

/-- Settles O51: what the arbiter chooses decides which command sends, and every other one waits. -/
theorem arbiterSendsNoticesAndRepliesFirst : Obligations.ArbiterSendsNoticesAndRepliesFirst := by
  unfold Obligations.ArbiterSendsNoticesAndRepliesFirst
  refine ⟨fun ns n => ⟨raiseNotice_new, raiseNotice_again⟩, fun s high => ?_⟩
  intro started idle lower named
  refine ⟨fun busy c mem => ?_, fun free => ?_⟩
  · have none : s.choice = none := State.choice_busy fun free => busy ((LinkPort.free_iff _).mp free)
    exact exec_arbiter_stays mem fun c chosen => nomatch none.symm.trans chosen
  have free := (LinkPort.free_iff _).mpr free
  refine ⟨fun c redy => ⟨?_, fun i mem => ?_⟩, fun redy => ⟨?_, fun r rs replies => ?_, fun replies => ⟨fun i mem => ?_, fun n ns notices => ⟨?_, fun i mem => ?_⟩⟩⟩⟩
  · rw [exec_redy high (State.choice_redy free redy), ResetCause.body_eq]
    rfl
  · exact exec_arbiter_waits (List.mem_cons_of_mem _ mem) (State.choice_redy free redy) fun same : Instr.redy = i =>
      absurd mem (same ▸ by decide)
  · exact exec_arbiter_stays (by decide) fun c chosen taker =>
      absurd (taker ▸ State.choice_below_redy free redy chosen : Instr.redy ∈ _) (by decide)
  · have chosen := State.choice_reply free redy replies
    have sent := exec_reply high chosen
    have tail : s.link.replies.tail = rs := by rw [replies]; rfl
    rw [State.sendReply, tail] at sent
    intro l
    refine ⟨fun c clamped cut count is => ?_, fun c reason is => ?_, fun x is => ?_, fun cleared c is => ?_, fun i mem => ?_⟩
    · rw [is] at sent
      exact sent
    · rw [is, Reply.body_rfsd] at sent
      exact sent
    · rw [is] at sent
      exact sent
    · rw [is, Reply.body_cntp] at sent
      exact sent
    · exact exec_arbiter_waits (List.mem_of_mem_drop (i := 5) mem) chosen fun same =>
        absurd (same ▸ Choice.taker_reply r : i ∈ replyCommands) (not_mem_replyCommands i mem)
  · refine exec_arbiter_stays (List.mem_cons_of_mem _ (List.mem_append_left lower mem)) fun c chosen taker =>
      absurd mem (not_mem_replyCommands i (taker ▸ State.choice_below_replies free redy replies chosen))
  · rw [exec_note high (State.choice_notice free redy replies notices), PendingNotice.body_eq, notices]
    rfl
  · refine exec_arbiter_waits (List.mem_of_mem_drop (i := 6) mem) (State.choice_notice free redy replies notices) fun same : Instr.note = i => ?_
    exact absurd mem (same ▸ by decide)

end Sys2Proof.Machine
end

section
/-! The outbound arbiter: PICK, EVNT and SEGM (R130, R134, R135, R147, R148, R152, R172). -/

namespace Sys2Proof.Machine

section Records

variable {s : State} {i : Fin 4} {r : Record} {rs : List Record}

theorem SnippetStore.canSend_iff (st : SnippetStore) (r : Record) :
    st.canSend r = true ↔ ∀ n k, r = .item n k → (st.slots.get n).available k = true := by
  cases r with
  | pick p => exact ⟨fun _ n k is => (nomatch is), fun _ => rfl⟩
  | evnt e => exact ⟨fun _ n k is => (nomatch is), fun _ => rfl⟩
  | item n k =>
    refine ⟨fun can n' k' is => ?_, fun can => can n k rfl⟩
    cases is
    exact can

theorem State.offered_iff (s : State) (i : Fin 4) (r : Record) : s.offered i = some r ↔
    (s.queues.get i).ready = true ∧ 0 < (s.queues.get i).credits ∧ (s.queues.get i).records.head? = some r ∧
      ∀ n k, r = .item n k → (s.snips.slots.get n).available k = true := by
  rw [← SnippetStore.canSend_iff, ← Option.filter_eq_some_iff, ← and_assoc]
  unfold State.offered
  dsimp only
  by_cases offers : (s.queues.get i).ready = true ∧ 0 < (s.queues.get i).credits
  · rw [if_pos (by rw [Bool.and_eq_true, decide_eq_true_iff]; exact offers)]
    exact (and_iff_right offers).symm
  · rw [if_neg (by rw [Bool.and_eq_true, decide_eq_true_iff]; exact offers)]
    exact iff_of_false (nomatch ·) fun both => offers both.1

theorem SnipSlot.isLast_iff (x : SnipSlot) (k : Nat) : x.isLast k = true ↔ x.complete = true ∧ k = x.lastSegment := by
  unfold SnipSlot.isLast
  rw [Bool.and_eq_true, decide_eq_true_iff]

theorem SnipSlot.available_iff (x : SnipSlot) (k : Nat) :
    x.available k = true ↔ (k + 1) * x.size ≤ x.triples.length ∨ (x.complete = true ∧ k = x.lastSegment) := by
  unfold SnipSlot.available
  rw [Bool.or_eq_true, decide_eq_true_iff, Bool.and_eq_true, decide_eq_true_iff]
  rfl

/-! ## The lowest offering queue (R134) -/

theorem State.offeredRecord_none (idle : ∀ i, s.offered i = none) : s.offeredRecord = none := by
  unfold State.offeredRecord
  rw [List.findSome?_eq_none_iff]
  exact fun i _ => by rw [idle i]; rfl

theorem queueNumbers_split : ∀ i : Fin 4, ([0, 1, 2, 3] : List (Fin 4)) = (List.finRange 4).take i.val ++ i :: (List.finRange 4).drop (i.val + 1) ∧
    ∀ j ∈ (List.finRange 4).take i.val, j < i := by decide

theorem State.offeredRecord_lowest (lower : ∀ j, j < i → s.offered j = none) (offers : s.offered i = some r) : s.offeredRecord = some (i, r) := by
  unfold State.offeredRecord
  rw [List.findSome?_eq_some_iff]
  obtain ⟨order, below⟩ := queueNumbers_split i
  exact ⟨_, i, _, order, by rw [offers]; rfl, fun j mem => by rw [lower j (below j mem)]; rfl⟩

/-! ## A record taken (R134, R149, R152) -/

/-- The queue that gave its head: a credit spent, and an emptied queue untimed and not ready. -/
def Queue.paid (q : Queue) (rs : List Record) : Queue := { q with
  records := rs, credits := q.credits - 1
  timer := if rs = [] then .stopped else q.timer, expiry := if rs = [] then false else q.expiry
  ready := if rs = [] then false else q.ready }

theorem Queue.settle_paid {q : Queue} (records : q.records = r :: rs) :
    ({ q with records := q.records.tail, credits := q.credits - 1 } : Queue).settle = q.paid rs := by
  rw [Queue.settle_eq, records]
  rfl

theorem State.takeHead_paid (records : (s.queues.get i).records = r :: rs) : s.takeHead i = s.putQueue i ((s.queues.get i).paid rs) := by
  unfold State.takeHead
  dsimp only
  rw [Queue.settle_paid records]

theorem State.takeSegment_last {n : Fin 8} {k : Nat} (records : (s.queues.get i).records = r :: rs)
    (last : (s.snips.slots.get n).isLast k = true) : s.takeSegment i n k = (s.freeSlot n).putQueue i ((s.queues.get i).paid rs) := by
  unfold State.takeSegment
  dsimp only
  rw [if_pos last, Queue.settle_paid records]

theorem State.takeSegment_more {n : Fin 8} {k : Nat} (records : (s.queues.get i).records = r :: rs)
    (more : (s.snips.slots.get n).isLast k = false) : s.takeSegment i n k =
      ({ s with snips := { s.snips with slots := s.snips.slots.set n { s.snips.slots.get n with state := .sending } } } : State).putQueue i
        { s.queues.get i with records := .item n (k + 1) :: rs, credits := (s.queues.get i).credits - 1 } := by
  unfold State.takeSegment
  dsimp only
  rw [if_neg (by rw [more]; exact Bool.false_ne_true), records]
  rfl

theorem exec_pick (high : s.resetLow = false) {p : PickReport} (chosen : s.choice = some (.record i (.pick p))) :
    exec .pick s = .next ((s.takeHead i).send 0x50 p.body) :=
  (State.live_next high _).trans (congrArg Host.Outcome.next (by rw [State.takePickRecord, chosen]))

theorem exec_evnt (high : s.resetLow = false) {e : EventReport} (chosen : s.choice = some (.record i (.evnt e))) :
    exec .evnt s = .next ((s.takeHead i).send 0x51 e.body) :=
  (State.live_next high _).trans (congrArg Host.Outcome.next (by rw [State.takeEvntRecord, chosen]))

theorem exec_segm (high : s.resetLow = false) {n : Fin 8} {k : Nat} (chosen : s.choice = some (.record i (.item n k))) :
    exec .segm s = .next ((s.takeSegment i n k).send 0x52 ((s.snips.slots.get n).segmentBody k)) :=
  (State.live_next high _).trans (congrArg Host.Outcome.next (by rw [State.takeSegmRecord, chosen]))

end Records

/-- Settles O52: the choice is the head of the lowest offering queue; each kind of record has its take. -/
theorem arbiterServesTheLowestOfferingQueue : Obligations.ArbiterServesTheLowestOfferingQueue := by
  unfold Obligations.ArbiterServesTheLowestOfferingQueue
  refine ⟨State.offered_iff, fun x k => ⟨x.available_iff k, x.isLast_iff k⟩, fun s high idle line noFlow go redy replies notices => ?_⟩
  have chosen := State.choice_of_record ((LinkPort.free_iff _).mpr ⟨idle, line, noFlow, go⟩) redy replies notices
  refine ⟨fun nothing => ?_, fun i r rs lower offers records => ?_⟩
  · rw [State.offeredRecord_none nothing] at chosen
    have stays (c : Instr) (mem : c ∈ arbiterCommands) : exec c s = .next s :=
      exec_arbiter_stays mem fun d is => nomatch chosen.symm.trans is
    exact ⟨stays .pick (by decide), stays .evnt (by decide), stays .segm (by decide)⟩
  · rw [State.offeredRecord_lowest lower offers] at chosen
    change s.choice = some (.record i r) at chosen
    intro x paid sent
    refine ⟨fun p is => ?_, fun e is => ?_, fun n k is => ?_⟩
    · rw [exec_pick high (is ▸ chosen), State.takeHead_paid records]
      rfl
    · rw [exec_evnt high (is ▸ chosen), State.takeHead_paid records]
      rfl
    · intro y slot
      refine ⟨fun last => ?_, fun more => ?_⟩
      · rw [exec_segm high (is ▸ chosen), State.takeSegment_last records last]
        rfl
      · rw [exec_segm high (is ▸ chosen), State.takeSegment_more records more]
        rfl

end Sys2Proof.Machine
end
